-- ==== Sys2Proof/Word.lean ====
section
/-! DEFINITION. Numbers of the model: bytes, and the plain arithmetic of counters. The spec's counters,
lengths, masses and times are whole numbers with stated ranges (00 "Units and numbers"); they are `Nat`, and
only the bytes of a message are bit vectors. -/

namespace Sys2Proof

/-- A byte of a mill frame or of a line message (R213). -/
abbrev Byte := BitVec 8

/-- Raising a saturating counter: it stops at the top of its range (00 "Units and numbers"). -/
def satAdd (top a b : Nat) : Nat := min top (a + b)

/-- A value below its range is taken as the lowest value, one above as the highest. -/
def clampTo (lo hi v : Nat) : Nat := max lo (min hi v)

/-- The top of a four-byte counter, 4,294,967,295. -/
def top32 : Nat := 4294967295

/-- The top of the frame length, 281,474,976,710,655 mm (R45). -/
def top48 : Nat := 281474976710655

/-- The top of a two-byte counter. -/
def top16 : Nat := 65535

end Sys2Proof
end

