-- ==== Sys2Proof/Syntax.lean ====
section
/-! DEFINITION. The commands of the block: one constructor of `Instr` for each row of spec/opcode_table.json,
with the types of their operands. A request carries the mill frame it came in (`ReqFrame`) beside its arguments,
because the spec gives no byte layout of a request's arguments (log 12); what has a layout in chapter 11 is carried
as bytes. -/

namespace Sys2Proof

/-- The two sides of the frame; each has one carriage (R2). -/
inductive Side where
  | A
  | B
  deriving DecidableEq, Repr

/-- The two mill-link ports. -/
inductive Port where
  | up
  | down
  deriving DecidableEq, Repr

/-- A good mill frame as it passes through: header fields and payload bytes (R214). -/
structure RawFrame where
  dest : Nat
  src : Nat
  type : Nat
  seq : Nat
  payload : List Byte
  deriving DecidableEq, Repr

/-- The mill frame that carries a request or a station order: destination, source and sequence of its header,
its payload bytes as received (they go on with a broadcast's copy, R194), and whether that payload is too short to
hold the arguments the request's rule requires (R197; log 12). -/
structure ReqFrame where
  dest : Nat
  src : Nat
  seq : Nat
  raw : List Byte
  short : Bool
  deriving DecidableEq, Repr

/-- What a request with a single form and a segment form names (R2). -/
inductive Target where
  | spindle (n : Nat)
  | segment (k : Nat)
  deriving DecidableEq, Repr

/-- How a ROVING_SET gives its fill (R144). -/
inductive FillArg where
  | byClass (c : Nat)
  | byMass (grams : Nat)
  deriving DecidableEq, Repr

/-- One item of LOAD_RECIPE: field number and value (R201). -/
structure RecipeItem where
  field : Nat
  value : Nat
  deriving DecidableEq, Repr

/-- One item of LOAD_LOTS (R139). -/
structure LotItem where
  cls : Nat
  mass : Nat
  valid : Bool
  deriving DecidableEq, Repr

/-- The value of a down field of the pass table (R198). -/
inductive Perm where
  | deny
  | allow
  | whenOut
  | whenStopped
  deriving DecidableEq, Repr

/-- An entry of the pass table: one down field for each class of station, and up forward (R198). -/
structure PassEntry where
  segment : Perm
  drive : Perm
  carriage : Perm
  doffer : Perm
  up : Bool
  deriving DecidableEq, Repr

/-- One item of LOAD_PASS (R198). -/
structure PassItem where
  kind : Nat
  entry : PassEntry
  deriving DecidableEq, Repr

/-- The profile field a PROFILE_WRITE item names (R207); `unknown` names none. -/
inductive ProfileField where
  | frameNumber
  | segmentsA
  | segmentsB
  | pulseLength
  | recipe (field : Nat)
  | lot (cls : Nat)
  | unknown
  deriving DecidableEq, Repr

/-- One item of PROFILE_WRITE; `valid` is read for a lot default only (R206, R207). -/
structure ProfileItem where
  field : ProfileField
  value : Nat
  valid : Bool
  deriving DecidableEq, Repr

/-- The commands. A side or carriage operand of a request is absent where the request names "any other value"
(R88, R106). -/
inductive Instr where
  | powerOn
  | pinReset
  | runClockTick
  | ageLimitReached (side : Side)
  | forecastPeriodExpiry
  | fullPass
  | segmentPass (segment : Nat)
  | settleTimerExpiry
  | verifyWindowExpiry (spindle : Nat)
  | orderTimerExpiry (side : Side)
  | parkTimerExpiry
  | doffTimerExpiry
  | storeComplete
  | poll
  | replyWindowExpiry
  | reply (bytes : List Byte)
  | stationMessage (bytes : List Byte)
  | halt
  | upTransmitBegin
  | upTransmitEnd
  | downTransmitBegin
  | downTransmitEnd
  | downConnected
  | downDisconnected
  | badFrame (port : Port) (bytes : List Byte)
  | throughDownFrame (frame : RawFrame)
  | throughUpFrame (frame : RawFrame)
  | misdirectedFrame (frame : RawFrame)
  | unknownRequest (h : ReqFrame) (code : Nat)
  | stationOrder (h : ReqFrame)
  | status (h : ReqFrame) (clear : Bool)
  | loadRecipe (h : ReqFrame) (items : List RecipeItem)
  | readRecipe (h : ReqFrame)
  | loadPass (h : ReqFrame) (items : List PassItem)
  | readPass (h : ReqFrame)
  | setMask (h : ReqFrame) (masks : List Bool)
  | readEvents (h : ReqFrame)
  | clearEvents (h : ReqFrame) (classes : List Nat)
  | profileWrite (h : ReqFrame) (items : List ProfileItem)
  | profileStore (h : ReqFrame)
  | readProfile (h : ReqFrame)
  | resetArm (h : ReqFrame)
  | reset (h : ReqFrame)
  | readSpindles (h : ReqFrame) (start count : Nat)
  | serviceOut (h : ReqFrame) (spindle : Nat)
  | serviceOutSegment (h : ReqFrame) (segment : Nat)
  | serviceIn (h : ReqFrame) (target : Target)
  | readSegment (h : ReqFrame) (segment : Nat)
  | readDelivery (h : ReqFrame)
  | hold (h : ReqFrame) (spindle : Nat)
  | holdSegment (h : ReqFrame) (segment : Nat)
  | release (h : ReqFrame) (target : Target)
  | holdAll (h : ReqFrame)
  | releaseAll (h : ReqFrame)
  | rogueRelease (h : ReqFrame) (spindle : Nat)
  | readList (h : ReqFrame) (side : Option Side)
  | carriageOut (h : ReqFrame) (carriage : Option Side)
  | carriageRestore (h : ReqFrame) (carriage : Option Side)
  | readCarriage (h : ReqFrame) (carriage : Option Side)
  | doffNow (h : ReqFrame)
  | doffInhibit (h : ReqFrame)
  | doffPermit (h : ReqFrame)
  | doffSuspend (h : ReqFrame)
  | doffResume (h : ReqFrame)
  | doffRetry (h : ReqFrame)
  | doffConfirm (h : ReqFrame)
  | frameHalt (h : ReqFrame)
  | frameRun (h : ReqFrame)
  | readDoff (h : ReqFrame)
  | loadLots (h : ReqFrame) (items : List LotItem)
  | readLots (h : ReqFrame)
  | rovingSet (h : ReqFrame) (target : Target) (fill : FillArg)
  | readRoving (h : ReqFrame)
  | forecastNow (h : ReqFrame)
  | shiftClose (h : ReqFrame) (number : Nat)
  | readShift (h : ReqFrame) (index : Nat)
  | loadPoll (h : ReqFrame) (addresses : List Nat)
  | readPoll (h : ReqFrame)
  | readStations (h : ReqFrame) (clear : Bool)
  | mailboxClear (h : ReqFrame) (address : Nat)
  | upLinkLost
  | upLinkRestored
  | powerLoss
  deriving DecidableEq, Repr

end Sys2Proof
end

