-- ==== Sys2Proof/Decode.lean ====
section
/-! DEFINITION. The block has no instruction words: its commands are mill frames, line messages and events, and
spec/opcode_table.json gives no row any bits ("fields" is empty in every row). No word therefore spells a command. -/

namespace Sys2Proof

/-- The rows of spec/opcode_table.json that give bits, each with its width, its mask, its pattern and its command:
there are none. -/
def tableRowsWithBits : List (Nat × Nat × Nat × Instr) := []

/-- The command that the word `w` of `nbits` bits spells by the table's bits. -/
def decodeTableWord (nbits w : Nat) : Option Instr :=
  (tableRowsWithBits.find? (fun r => r.1 == nbits && (w &&& r.2.1) == r.2.2.1)).map (fun r => r.2.2.2)

end Sys2Proof
end

