-- ==== Sys2Proof/Machine/State.lean ====
section
/-! DEFINITION. The state of the F2-48 as plain data, block by block (00 "Block overview"), the two types of stops, and
the state right after power-on. -/

namespace Sys2Proof.Machine

/-- A pair of like things, one for each side of the frame. -/
structure PerSide (α : Type) where
  a : α
  b : α
  deriving DecidableEq, Repr

/-- The value of the side. -/
def PerSide.get {α : Type} (p : PerSide α) : Side → α
  | .A => p.a
  | .B => p.b

/-- The pair with the value of one side replaced. -/
def PerSide.set {α : Type} (p : PerSide α) (side : Side) (x : α) : PerSide α :=
  match side with
  | .A => { p with a := x }
  | .B => { p with b := x }

/-- A millisecond timer: the time left, running or stopped (R26, R66, R90, R111). -/
structure Timer where
  left : Nat
  running : Bool
  deriving DecidableEq, Repr

/-! ### Spindle Table (R3, R4) -/

/-- The nine spindle states (R4). -/
inductive SpindleState where
  | vacant
  | offline
  | unseen
  | spinning
  | down
  | servicing
  | verifying
  | starved
  | rogue
  deriving DecidableEq, Repr

/-- A spindle's place in dispatch (R10). -/
inductive ListStatus where
  | none
  | waiting
  | assigned
  | verifying
  | unlisted
  deriving DecidableEq, Repr

/-- The fill of a creel position: fill mark and fill mass are present or absent together (R7). -/
structure Fill where
  mark : Nat
  mass : Nat
  deriving DecidableEq, Repr

/-- The spindle record (R3). -/
structure Spindle where
  state : SpindleState
  held : Bool
  slow : Bool
  lotReported : Bool
  breakMark : Option Nat
  lostShift : Nat
  lostDoff : Nat
  lostFill : Nat
  fill : Option Fill
  attempts : Nat
  breaks : Nat
  listStatus : ListStatus
  deriving DecidableEq, Repr

/-- The record of a VACANT spindle (R23). -/
def Spindle.vacant : Spindle :=
  { state := .vacant, held := false, slow := false, lotReported := false, breakMark := none, lostShift := 0,
    lostDoff := 0, lostFill := 0, fill := none, attempts := 0, breaks := 0, listStatus := .none }

/-- The record of a counted spindle made afresh at the frame length `mark` (R23, R24). -/
def Spindle.fresh (mark : Nat) : Spindle := { Spindle.vacant with state := .unseen, breakMark := some mark }

/-! ### Sense Intake (R26) -/

/-- A sense value that can be latched (R26). -/
inductive Sense where
  | spinning
  | endDown
  | lagging
  | noRoving
  deriving DecidableEq, Repr

/-- A spindle's latched value (absent: none) and candidate (R26). -/
structure Cell where
  latched : Option Sense
  candidate : Option Sense
  deriving DecidableEq, Repr

/-- The intake counters of a segment (R26). -/
structure SegmentCounts where
  samples : Nat
  unread : Nat
  flicker : Nat
  lastHeard : Option Nat
  deriving DecidableEq, Repr

/-- The gate (2.2). -/
inductive Gate where
  | closed
  | settling
  | opened
  deriving DecidableEq, Repr

/-- Sense Intake's state: cells of spindles 1..1920, counters of segments 1..80, gate and settle timer (R26). -/
structure Intake where
  cells : List Cell
  segments : List SegmentCounts
  gate : Gate
  settle : Timer
  deriving DecidableEq, Repr

/-! ### Delivery Counter (R45) -/

/-- The state a drive report gives (R45). -/
inductive DriveState where
  | running
  | stopping
  | stopped
  | fault
  deriving DecidableEq, Repr

/-- Delivery Counter's state (R45). `refound` says that the drive station has been found again and has given no report
since (R28, R52, R129; log 20). The pulse length in force is that of the profile in force. -/
structure Delivery where
  frameLength : Nat
  rem : Nat
  baseline : Option Nat
  drive : Option DriveState
  firstTaken : Bool
  refound : Bool
  runClock : Nat
  deriving DecidableEq, Repr

/-! ### Piecing Dispatcher (R66, R90) -/

/-- The status of a break-list entry (R66). -/
inductive EntryStatus where
  | waiting
  | assigned
  | verifying
  deriving DecidableEq, Repr

/-- A break-list entry (R66). -/
structure Entry where
  spindle : Nat
  admittedAt : Nat
  status : EntryStatus
  carriage : Option Side
  passedOver : Bool
  holdPending : Bool
  window : Option Timer
  deriving DecidableEq, Repr

/-- A carriage's state (R90, R91). -/
inductive CarriageState where
  | idle
  | assigned
  | working
  | parking
  | parked
  | out
  deriving DecidableEq, Repr

/-- The direction of a carriage (00 "Positions"). -/
inductive Direction where
  | up
  | down
  deriving DecidableEq, Repr

/-- The kind of a carriage order; spindle and position are present for PIECE only (R90). -/
inductive OrderKind where
  | piece (spindle position : Nat)
  | cancel
  | park
  deriving DecidableEq, Repr

/-- The order in a carriage's slot (R90). -/
structure CarriageOrder where
  kind : OrderKind
  number : Nat
  collected : Bool
  deriving DecidableEq, Repr

/-- The carriage record (R90). -/
structure Carriage where
  state : CarriageState
  position : Nat
  direction : Direction
  slot : Option CarriageOrder
  nextNumber : Nat
  awaiting : Bool
  timer : Timer
  pieced : Nat
  stale : Nat
  deriving DecidableEq, Repr

/-- Piecing Dispatcher's state (R66, R90). -/
structure Dispatcher where
  lists : PerSide (List Entry)
  globalHold : Bool
  carriages : PerSide Carriage
  deriving DecidableEq, Repr

/-! ### Doff Controller (R111) -/

/-- The ten doff states (R111). -/
inductive DoffState where
  | looking
  | spinning
  | halted
  | due
  | stopping
  | doffing
  | suspended
  | faulted
  | blocked
  | restarting
  deriving DecidableEq, Repr

/-- An order for the drive (R113). -/
inductive DriveOrder where
  | run
  | stop
  deriving DecidableEq, Repr

/-- The drive slot's order with its number (R113). -/
structure DriveSlot where
  order : DriveOrder
  number : Nat
  deriving DecidableEq, Repr

/-- An order for the doffer (R114). -/
inductive DofferOrder where
  | go (start : Nat)
  | pause
  | resume
  deriving DecidableEq, Repr

/-- The doffer slot's order with its number (R114). -/
structure DofferSlot where
  order : DofferOrder
  number : Nat
  deriving DecidableEq, Repr

/-- The doff timer runs, is frozen or is stopped (R111). -/
inductive TimerMode where
  | running
  | frozen
  | stopped
  deriving DecidableEq, Repr

/-- The doff timer (R111). -/
structure DoffTimer where
  left : Nat
  mode : TimerMode
  deriving DecidableEq, Repr

/-- Doff Controller's state (R111). -/
structure DoffControl where
  state : DoffState
  mark : Nat
  inhibit : Bool
  inProgress : Bool
  lastSegment : Nat
  driveSlot : Option DriveSlot
  driveNext : Nat
  dofferSlot : Option DofferSlot
  dofferNext : Nat
  doffTimer : DoffTimer
  parkTimer : Timer
  stopTime : Option Nat
  ignored : Nat
  deriving DecidableEq, Repr

/-! ### Roving Monitor (R135) -/

/-- An entry of the lot table (R138). -/
structure Lot where
  mass : Nat
  valid : Bool
  deriving DecidableEq, Repr

/-- A forecast pass that has fallen due and has not been taken (R146). -/
inductive Pass where
  | full
  | segment (k : Nat)
  deriving DecidableEq, Repr

/-- Roving Monitor's state (R135); `due` holds the passes in the order in which they fell due (R146), and `asked` says how many of
them, from the first, stand up to the last one that a FORECAST_NOW started: a READ_ROVING waits for these (R152; log 18). -/
structure Roving where
  lots : List Lot
  forecasts : List (Option Nat)
  queue : List Nat
  period : Nat
  periodRunning : Bool
  lastFullPass : Option Nat
  due : List Pass
  asked : Nat
  deriving DecidableEq, Repr

/-! ### Shift Accounts (R157, R160) -/

/-- The seven counters of a shift (R157). -/
structure ShiftCounters where
  breaks : Nat
  piecedA : Nat
  piecedB : Nat
  failed : Nat
  doffs : Nat
  stopSeconds : Nat
  exchanges : Nat
  deriving DecidableEq, Repr

/-- A shift record (R160); `closedAt` is absent in the record of the open shift (R167). -/
structure ShiftRecord where
  number : Nat
  openedAt : Nat
  closedAt : Option Nat
  delivered : Nat
  produced : Nat
  mass : Nat
  efficiency : Option Nat
  counted : Nat
  counters : ShiftCounters
  rogue : Nat
  starved : Nat
  offline : Nat
  slow : Nat
  deriving DecidableEq, Repr

/-- Shift Accounts' state (R157). -/
structure Shifts where
  number : Nat
  openedAt : Nat
  mark : Nat
  counters : ShiftCounters
  history : List ShiftRecord
  deriving DecidableEq, Repr

/-! ### Line Controller (R174, R177, R191) -/

/-- The mill order in a mailbox (R174). -/
structure MillOrder where
  kind : Nat
  payload : List Byte
  number : Nat
  deriving DecidableEq, Repr

/-- A station table entry (R174); kind and fitted follow from the address and the geometry in force. -/
structure Station where
  address : Nat
  found : Bool
  silence : Nat
  errors : Nat
  lastReport : Option Nat
  lastHeard : Option Nat
  mailbox : Option MillOrder
  mailboxNext : Nat
  overrun : Bool
  deriving DecidableEq, Repr

/-- A line message by its fields (R215): the two flag bits are the source bit and the presence bit. -/
structure LineMessage where
  dest : Nat
  src : Nat
  kind : Nat
  orderKind : Nat
  orderNumber : Nat
  reportNumber : Nat
  mill : Bool
  present : Bool
  payload : List Byte
  deriving DecidableEq, Repr

/-- Line Controller's state (R174, R177, R191). `visit` is the station of the visit in progress; `messageFirst` says that a
station's message may have been in progress when the waiting HALT came to wait, and so goes before it (R185; the model's own
field, log 36); `lineOut` is the message the part last put on the line (the model's own field, log 24). -/
structure LineControl where
  stations : List Station
  schedule : List Nat
  cursor : Nat
  visit : Option Nat
  haltWaiting : Bool
  messageFirst : Bool
  lineOut : Option LineMessage
  deriving DecidableEq, Repr

/-! ### Profile Store and recipe (R201, R206) -/

/-- The recipe (R201). -/
structure Recipe where
  countTex10 : Nat
  wastePm : Nat
  nominalRate : Nat
  doffTarget : Nat
  doffOverrun : Nat
  leadTime : Nat
  forecastPeriod : Nat
  attemptLimit : Nat
  ageLimit : Nat
  verifyWindow : Nat
  orderLimit : Nat
  parkLimit : Nat
  settle : Nat
  doffLimit : Nat
  pulseLimit : Nat
  deriving DecidableEq, Repr

/-- The built-in recipe defaults (R201). -/
def Recipe.default : Recipe :=
  { countTex10 := 74, wastePm := 25, nominalRate := 18000, doffTarget := 4200000, doffOverrun := 60000,
    leadTime := 90, forecastPeriod := 10, attemptLimit := 3, ageLimit := 300, verifyWindow := 12,
    orderLimit := 180, parkLimit := 120, settle := 8, doffLimit := 600, pulseLimit := 4000 }

/-- A profile (R206). -/
structure Profile where
  frameNumber : Nat
  segmentsA : Nat
  segmentsB : Nat
  pulseLength : Nat
  recipe : Recipe
  lots : List Lot
  deriving DecidableEq, Repr

/-- The default profile (R206). -/
def Profile.default : Profile :=
  { frameNumber := 250, segmentsA := 1, segmentsB := 0, pulseLength := 1300, recipe := Recipe.default,
    lots := List.replicate 16 { mass := 1000, valid := false } }

/-- Where the profile in force comes from (R206). -/
inductive ProfileSource where
  | stored
  | default
  deriving DecidableEq, Repr

/-- Profile Store's state (R206, R208). `inForce` holds the frame number, the geometry and the pulse length in force. -/
structure ProfileStore where
  stored : Profile
  checkPasses : Bool
  pendingCopy : Profile
  inForce : Profile
  source : ProfileSource
  busy : Bool
  deriving DecidableEq, Repr

/-! ### Event Unit (R202) -/

/-- An event class (R202); `mask` is yes when the mask bit is open. -/
structure EventClass where
  flag : Bool
  count : Nat
  detail : Nat
  mask : Bool
  pending : Bool
  given : Bool
  deriving DecidableEq, Repr

/-- A class at power-on (R205). -/
def EventClass.clear : EventClass :=
  { flag := false, count := 0, detail := 0, mask := true, pending := false, given := false }

/-! ### Answers and the records that reads return -/

/-- The answer to a request (R197). -/
inductive Answer where
  | done
  | clamped (count : Nat)
  | busy
  | state
  | argument
  | unknown
  | notArmed
  | mailboxFull
  | denied
  deriving DecidableEq, Repr

/-- A spindle record as read (R22, R217). -/
structure SpindleView where
  number : Nat
  state : SpindleState
  held : Bool
  slow : Bool
  lotReported : Bool
  latched : Option Sense
  attempts : Nat
  breaks : Nat
  listStatus : ListStatus
  breakMark : Option Nat
  produced : Nat
  cop : Nat
  remaining : Option Nat
  fillMass : Option Nat
  deriving DecidableEq, Repr

/-- READ_SEGMENT's answer (R43); `settleLeft` is present in SETTLING. -/
structure SegmentView where
  segment : Nat
  found : Bool
  gate : Gate
  settleLeft : Option Nat
  cells : List Cell
  counts : SegmentCounts
  deriving DecidableEq, Repr

/-- READ_DELIVERY's answer (R63). -/
structure DeliveryView where
  frameLength : Nat
  rem : Nat
  baseline : Option Nat
  drive : Option DriveState
  found : Bool
  runClock : Nat
  doffMark : Nat
  shiftMark : Nat
  deriving DecidableEq, Repr

/-- READ_LIST's answer (R88). -/
structure ListView where
  side : Side
  entries : List Entry
  unlisted : Nat
  unlistedHeld : Nat
  globalHold : Bool
  runClock : Nat
  deriving DecidableEq, Repr

/-- READ_CARRIAGE's answer: the carriage record and the station's status (R108). -/
structure CarriageView where
  side : Side
  carriage : Carriage
  found : Bool
  deriving DecidableEq, Repr

/-- READ_DOFF's answer: the Doff Controller's state with what is computed or taken from the recipe (R132). -/
structure DoffView where
  control : DoffControl
  span : Nat
  doffTarget : Nat
  doffOverrun : Nat
  stopSeconds : Option Nat
  deriving DecidableEq, Repr

/-- READ_ROVING's answer (R153). -/
structure RovingView where
  members : List (Nat × Option Nat)
  leadTime : Nat
  lastFullPass : Option Nat
  period : Nat
  periodRunning : Bool
  deriving DecidableEq, Repr

/-- The kind of a station (R174). -/
inductive StationKind where
  | controller
  | segment
  | drive
  | carriage
  | doffer
  deriving DecidableEq, Repr

/-- One entry of READ_STATIONS' answer (R189): of the mailbox, the kind and number of its order. -/
structure StationView where
  address : Nat
  kind : StationKind
  fitted : Bool
  found : Bool
  silence : Nat
  errors : Nat
  lastHeard : Option Nat
  lastReport : Option Nat
  mailbox : Option (Nat × Nat)
  mailboxNext : Nat
  overrun : Bool
  deriving DecidableEq, Repr

/-- The seven port counts (R192). -/
structure PortCounts where
  upBad : Nat
  downBad : Nat
  throughDownDiscarded : Nat
  throughUpDiscarded : Nat
  requestsDiscarded : Nat
  reportsDropped : Nat
  misdirected : Nat
  deriving DecidableEq, Repr

/-- All port counts 0 (R210). -/
def PortCounts.zero : PortCounts :=
  { upBad := 0, downBad := 0, throughDownDiscarded := 0, throughUpDiscarded := 0, requestsDiscarded := 0,
    reportsDropped := 0, misdirected := 0 }

/-- The last reset kind (R210). -/
inductive ResetKind where
  | powerOn
  | pin
  | link
  deriving DecidableEq, Repr

/-- STATUS's answer (R211). -/
structure StatusView where
  frameNumber : Nat
  lastReset : ResetKind
  source : ProfileSource
  storeBusy : Bool
  runClock : Nat
  doffState : DoffState
  carriageA : CarriageState
  carriageB : CarriageState
  counts : PortCounts
  throughDown : Nat
  throughUp : Nat
  own : Nat
  downConnected : Bool
  deriving DecidableEq, Repr

/-- The data of a REPLY, by named fields (log 31): `empty` where the rule returns none. -/
inductive ReplyData where
  | empty
  | spindles (records : List SpindleView)
  | segment (v : SegmentView)
  | delivery (v : DeliveryView)
  | list (v : ListView)
  | carriage (v : CarriageView)
  | doff (v : DoffView)
  | lots (v : List Lot)
  | roving (v : RovingView)
  | shift (index : Nat) (v : ShiftRecord)
  | poll (schedule : List Nat) (cursor : Nat)
  | stations (v : List StationView)
  | recipe (v : Recipe)
  | pass (v : List PassEntry)
  | events (v : List EventClass)
  | profile (pendingCopy inForce : Profile) (source : ProfileSource)
  | status (v : StatusView)
  deriving DecidableEq, Repr

/-! ### Mill Link Port (R192) -/

/-- The payload of a frame this part originates (R214). -/
inductive Body where
  | reply (code : Nat) (answer : Answer) (data : ReplyData)
  | notice (cls : Nat) (flag : Bool) (count detail runClock : Nat)
  | report (address kind runClock : Nat) (body : List Byte)
  deriving DecidableEq, Repr

/-- A frame this part originates. -/
structure OwnFrame where
  dest : Nat
  src : Nat
  seq : Nat
  body : Body
  deriving DecidableEq, Repr

/-- The frame in the UP transmitter. -/
inductive UpFrame where
  | through (f : RawFrame)
  | own (f : OwnFrame)
  deriving DecidableEq, Repr

/-- The queue the UP arbiter last chose (R192). -/
inductive Served where
  | through
  | own
  deriving DecidableEq, Repr

/-- Mill Link Port's state (R192, R210); `upLink` is the state of the link at the UP port (R195). -/
structure MillLink where
  throughDown : List RawFrame
  throughUp : List RawFrame
  own : List OwnFrame
  upTx : Option UpFrame
  downTx : Option RawFrame
  lastServed : Served
  downConnected : Bool
  upLink : Bool
  ownSeq : Nat
  resetArm : Bool
  counts : PortCounts
  passTable : List PassEntry
  recipe : Recipe
  lastReset : ResetKind
  deriving DecidableEq, Repr

/-! ### The model's own marks -/

/-- The timers that an event has loaded afresh while they ran, with no time passed since: an expiry that fell together with that
event is no expiry of the new load (R109, R133; log 40). -/
structure Overtaken where
  doff : Bool
  orders : PerSide Bool
  deriving DecidableEq, Repr

/-- No timer is marked. -/
def Overtaken.none : Overtaken := { doff := false, orders := { a := false, b := false } }

/-! ### The whole state -/

/-- The state of the part. `powered` says that the supply is present (log 3); `freeCount` is the model's counter for
free values (log 33), `overtaken` holds its marks of timers loaded afresh (log 40); `pending` is the queue of the commands that wait, first in first out. -/
structure State where
  powered : Bool
  ps : ProfileStore
  dc : Delivery
  spindles : List Spindle
  si : Intake
  pd : Dispatcher
  df : DoffControl
  rm : Roving
  sa : Shifts
  lc : LineControl
  ml : MillLink
  events : List EventClass
  overtaken : Overtaken
  freeCount : Nat
  pending : List Instr
  deriving DecidableEq, Repr

/-- Why the part could stop with a fault. The spec describes no event that stops the part (INVENTORY "Faults"). -/
inductive Fault where
  /-- Raised by no meaning: no command stops the part. Safe. -/
  | none
  deriving DecidableEq, Repr

/-- Why a command could be refused by the model. -/
inductive Refusal where
  /-- Raised by exec's arm of a command that has no meaning in the model yet; no arm is one. Safe. -/
  | notModelled (mnemonic : String)
  deriving DecidableEq, Repr

/-! ### The state right after power-on -/

/-- A carriage after power-on (R110). -/
def Carriage.initial : Carriage :=
  { state := .out, position := 0, direction := .up, slot := none, nextNumber := 0, awaiting := true,
    timer := { left := 0, running := false }, pieced := 0, stale := 0 }

/-- Doff Controller after power-on (R134). -/
def DoffControl.initial : DoffControl :=
  { state := .looking, mark := 0, inhibit := false, inProgress := false, lastSegment := 0, driveSlot := none,
    driveNext := 0, dofferSlot := none, dofferNext := 0, doffTimer := { left := 0, mode := .stopped },
    parkTimer := { left := 0, running := false }, stopTime := none, ignored := 0 }

/-- Counters of a shift at its opening (R162). -/
def ShiftCounters.zero : ShiftCounters :=
  { breaks := 0, piecedA := 0, piecedB := 0, failed := 0, doffs := 0, stopSeconds := 0, exchanges := 0 }

/-- A station entry after a reset (R191): entry 0 is found, every other lost. -/
def Station.initial (address : Nat) : Station :=
  { address := address, found := address == 0, silence := 0, errors := 0, lastReport := none, lastHeard := none,
    mailbox := none, mailboxNext := 0, overrun := false }

/-- The 85 addresses of the station table in ascending order (R174). -/
def stationAddresses : List Nat := List.range 81 ++ [96, 97, 98, 99]

/-- A pass table entry that denies everything (R198). -/
def closedEntry : PassEntry := { segment := .deny, drive := .deny, carriage := .deny, doffer := .deny, up := false }

/-- The default pass table (R198): EXCHANGE is code 9, DOFF_END 14, SERVICE 24. -/
def defaultPassTable : List PassEntry :=
  List.replicate 9 closedEntry ++ [{ closedEntry with up := true }] ++ List.replicate 4 closedEntry ++
  [{ closedEntry with up := true }] ++ List.replicate 9 closedEntry ++
  [{ segment := .whenStopped, drive := .deny, carriage := .whenOut, doffer := .whenOut, up := false }] ++
  List.replicate 7 closedEntry

/-- The machine right after reset: a power-on of a part whose stored profile fails its check (log 1), so that it runs
from the default profile with one segment on side A, with the UP link up and nothing connected at DOWN (log 2). The
power-on has raised RESET with detail 0 (R205), whose NOTICE stands in the own queue (R203). -/
def State.reset : State where
  powered := true
  ps := { stored := Profile.default, checkPasses := false, pendingCopy := Profile.default, inForce := Profile.default,
          source := .default, busy := false }
  dc := { frameLength := 0, rem := 0, baseline := none, drive := none, firstTaken := false, refound := false,
          runClock := 0 }
  spindles := List.replicate 24 (Spindle.fresh 0) ++ List.replicate 1896 Spindle.vacant
  si := { cells := List.replicate 1920 { latched := none, candidate := none }
          segments := List.replicate 80 { samples := 0, unread := 0, flicker := 0, lastHeard := none }
          gate := .closed, settle := { left := 0, running := false } }
  pd := { lists := { a := [], b := [] }, globalHold := false,
          carriages := { a := Carriage.initial, b := Carriage.initial } }
  df := DoffControl.initial
  rm := { lots := Profile.default.lots, forecasts := List.replicate 80 none, queue := [], period := 0,
          periodRunning := false, lastFullPass := none, due := [], asked := 0 }
  sa := { number := 0, openedAt := 0, mark := 0, counters := ShiftCounters.zero, history := [] }
  lc := { stations := stationAddresses.map Station.initial, schedule := [1, 96, 97, 98, 99], cursor := 1,
          visit := none, haltWaiting := false, messageFirst := false, lineOut := none }
  ml := { throughDown := [], throughUp := [],
          own := [{ dest := 0, src := 250, seq := 0, body := .notice 0 true 1 0 0 }],
          upTx := none, downTx := none, lastServed := .own, downConnected := false, upLink := true, ownSeq := 1,
          resetArm := false, counts := PortCounts.zero, passTable := defaultPassTable, recipe := Recipe.default,
          lastReset := .powerOn }
  events := { flag := true, count := 1, detail := 0, mask := true, pending := false, given := true } ::
            List.replicate 15 EventClass.clear
  overtaken := Overtaken.none
  freeCount := 0
  pending := []

end Sys2Proof.Machine
end

