-- ==== Sys2Proof/Machine/Ops.lean ====
section
/-! DEFINITION. The named operations over the part's tables, timers and records that every meaning is written in. -/

namespace Sys2Proof.Machine

/-- A step's outcome. -/
abbrev Out := Host.Outcome State Fault Refusal

/-- With the supply present a command has its effect `f`; without it nothing reaches the part (log 3). -/
def onSupply (f : State → State) (s : State) : Out := .next (if s.powered then f s else s)

/-! ### Timers (R46) -/

/-- A timer loaded with `ms` and running. -/
def Timer.load (ms : Nat) : Timer := { left := ms, running := true }

/-- A timer stopped; the time left stands (log 11). -/
def Timer.stop (t : Timer) : Timer := { t with running := false }

/-- A timer that has run out. -/
def Timer.expired : Timer := { left := 0, running := false }

/-- One millisecond of a running timer (log 9). -/
def Timer.tick (t : Timer) : Timer := if t.running then { t with left := t.left - 1 } else t

/-- The doff timer loaded with `ms` and running. -/
def DoffTimer.load (ms : Nat) : DoffTimer := { left := ms, mode := .running }

/-- The doff timer stopped; the time left stands (log 11). -/
def DoffTimer.stop (t : DoffTimer) : DoffTimer := { t with mode := .stopped }

/-- One millisecond of the doff timer: a frozen timer keeps its time left (R123). -/
def DoffTimer.tick (t : DoffTimer) : DoffTimer := if t.mode = .running then { t with left := t.left - 1 } else t

/-! ### Geometry and numbering (R1, R2) -/

/-- The segment of a spindle (R2). -/
def segmentOf (n : Nat) : Nat := (n - 1) / 24 + 1

/-- The side of a spindle (R2). -/
def sideOf (n : Nat) : Side := if n ≤ 960 then .A else .B

/-- The position of a spindle along its side (R2). -/
def positionOf (n : Nat) : Nat := if n ≤ 960 then n else n - 960

/-- The 24 spindles of a segment in ascending number (00 "Spindle numbers"). -/
def segmentSpindles (k : Nat) : List Nat := (List.range 24).map (fun i => 24 * (k - 1) + 1 + i)

/-- The spindle numbers of a side. -/
def sideSpindles : Side → List Nat
  | .A => (List.range 960).map (· + 1)
  | .B => (List.range 960).map (· + 961)

/-- The spindle numbers 1..1920. -/
def allSpindles : List Nat := (List.range 1920).map (· + 1)

/-- Whether segment `k` is fitted in a geometry of `a` segments on side A and `b` on side B (R1). -/
def fittedIn (a b k : Nat) : Bool := (1 ≤ k && k ≤ a) || (41 ≤ k && k ≤ 40 + b)

/-- Whether segment `k` is fitted in the geometry in force (R1). -/
def State.fitted (s : State) (k : Nat) : Bool := fittedIn s.ps.inForce.segmentsA s.ps.inForce.segmentsB k

/-- The fitted segments in ascending number: side A's, then side B's (R1). -/
def fittedSegments (a b : Nat) : List Nat := (List.range 80).map (· + 1) |>.filter (fittedIn a b)

/-- The number of counted spindles of the geometry in force (R1). -/
def State.countedSpindles (s : State) : Nat := 24 * (s.ps.inForce.segmentsA + s.ps.inForce.segmentsB)

/-- The frame number in force (R206). -/
def State.frameNumber (s : State) : Nat := s.ps.inForce.frameNumber

/-- The recipe in force (R201). -/
def State.recipe (s : State) : Recipe := s.ml.recipe

/-! ### The spindle table (R3) -/

/-- The record of spindle `n`; a number outside 1..1920 reads as VACANT (log 25). -/
def State.spindle (s : State) (n : Nat) : Spindle := if n = 0 then Spindle.vacant else s.spindles.getD (n - 1) Spindle.vacant

/-- The state with spindle `n`'s record changed by `f`. -/
def modSpindle (n : Nat) (f : Spindle → Spindle) (s : State) : State :=
  if n = 0 then s else { s with spindles := s.spindles.modify (n - 1) f }

/-- The state with every spindle's record changed by `f`. -/
def modAllSpindles (f : Spindle → Spindle) (s : State) : State := { s with spindles := s.spindles.map f }

/-- Setting a spindle's list status (R10). -/
def setListStatus (n : Nat) (x : ListStatus) : State → State := modSpindle n (fun p => { p with listStatus := x })

/-- The down states (R4). -/
def SpindleState.isDown : SpindleState → Bool
  | .vacant => false
  | .spinning => false
  | .offline => true
  | .unseen => true
  | .down => true
  | .servicing => true
  | .verifying => true
  | .starved => true
  | .rogue => true

/-- A spindle is counted when it is not VACANT (R4). -/
def Spindle.counted (p : Spindle) : Bool := !(p.state == .vacant)

/-! ### Sense Intake's tables (R26) -/

/-- A cell with nothing latched and no candidate (R44). -/
def Cell.blank : Cell := { latched := none, candidate := none }

/-- The intake cell of spindle `n` (log 25 outside 1..1920). -/
def State.cell (s : State) (n : Nat) : Cell := if n = 0 then Cell.blank else s.si.cells.getD (n - 1) Cell.blank

/-- The state with spindle `n`'s cell changed by `f`. -/
def modCell (n : Nat) (f : Cell → Cell) (s : State) : State :=
  if n = 0 then s else { s with si.cells := s.si.cells.modify (n - 1) f }

/-- A segment's counters after a reset (R44). -/
def SegmentCounts.zero : SegmentCounts := { samples := 0, unread := 0, flicker := 0, lastHeard := none }

/-- The intake counters of segment `k` (log 25 outside 1..80). -/
def State.counts (s : State) (k : Nat) : SegmentCounts :=
  if k = 0 then SegmentCounts.zero else s.si.segments.getD (k - 1) SegmentCounts.zero

/-- The state with segment `k`'s counters changed by `f`. -/
def modCounts (k : Nat) (f : SegmentCounts → SegmentCounts) (s : State) : State :=
  if k = 0 then s else { s with si.segments := s.si.segments.modify (k - 1) f }

/-! ### Break lists and carriages (R66, R90) -/

/-- The break list of a side. -/
def State.list (s : State) (side : Side) : List Entry := s.pd.lists.get side

/-- The state with a side's break list replaced. -/
def setList (side : Side) (l : List Entry) (s : State) : State := { s with pd.lists := s.pd.lists.set side l }

/-- The carriage of a side. -/
def State.carriage (s : State) (side : Side) : Carriage := s.pd.carriages.get side

/-- The state with a side's carriage changed by `f`. -/
def modCarriage (side : Side) (f : Carriage → Carriage) (s : State) : State :=
  { s with pd.carriages := s.pd.carriages.set side (f (s.carriage side)) }

/-- The break-list entry of spindle `n`, if it has one. -/
def State.entry? (s : State) (n : Nat) : Option Entry := (s.list (sideOf n)).find? (fun e => e.spindle == n)

/-- The state with spindle `n`'s entry changed by `f` in its place. -/
def modEntry (n : Nat) (f : Entry → Entry) (s : State) : State :=
  setList (sideOf n) ((s.list (sideOf n)).map (fun e => if e.spindle = n then f e else e)) s

/-- The state with spindle `n`'s entry taken out wherever it stands (R66). -/
def dropEntry (n : Nat) (s : State) : State :=
  setList (sideOf n) ((s.list (sideOf n)).filter (fun e => !(e.spindle == n))) s

/-- The station address of a side's carriage (00 "Line station addresses"). -/
def carriageAddress : Side → Nat
  | .A => 97
  | .B => 98

/-! ### The station table (R174) -/

/-- The entry of an address (log 25 for an address with none). -/
def State.station (s : State) (a : Nat) : Station :=
  (s.lc.stations.find? (fun e => e.address == a)).getD { Station.initial a with found := false }

/-- The state with the entry of address `a` changed by `f`. -/
def modStation (a : Nat) (f : Station → Station) (s : State) : State :=
  { s with lc.stations := s.lc.stations.map (fun e => if e.address = a then f e else e) }

/-- Whether the station at `a` is found (R175). -/
def State.found (s : State) (a : Nat) : Bool := (s.station a).found

/-- The kind of the station at an address; addresses 81..95 and 100..127 name no station (R174). -/
def kindAt (a : Nat) : Option StationKind :=
  if a = 0 then some .controller
  else if a ≤ 80 then some .segment
  else if a = 96 then some .drive
  else if a = 97 ∨ a = 98 then some .carriage
  else if a = 99 then some .doffer
  else none

/-- Whether an address names a fitted station other than the part itself (R174, R179, R187, R188). -/
def State.hasStation (s : State) (a : Nat) : Bool :=
  match kindAt a with
  | none => false
  | some .controller => false
  | some .segment => s.fitted a
  | some .drive => true
  | some .carriage => true
  | some .doffer => true

/-- The side a carriage's address serves. -/
def sideAt (a : Nat) : Side := if a = 97 then .A else .B

/-! ### Frames the part originates (R192, R214) -/

/-- Room in the own queue (R192: 0..16 frames). -/
def State.ownHasRoom (s : State) : Bool := s.ml.own.length < 16

/-- A frame joins the own queue. -/
def queueOwn (f : OwnFrame) (s : State) : State := { s with ml.own := s.ml.own ++ [f] }

/-- A NOTICE or a STATION_REPORT joins the own queue with the own sequence, which advances (R192, R200, R203). -/
def originate (b : Body) (s : State) : State :=
  let s := queueOwn { dest := 0, src := s.frameNumber, seq := s.ml.ownSeq, body := b } s
  { s with ml.ownSeq := (s.ml.ownSeq + 1) % 65536 }

/-- The port counts changed by `f` (R192). -/
def modPortCounts (f : PortCounts → PortCounts) (s : State) : State := { s with ml.counts := f s.ml.counts }

/-! ### Order numbers (R92, R113, R187) -/

/-- The number after `n`, from 255 to 0. -/
def nextNumber (n : Nat) : Nat := (n + 1) % 256

/-- An order for the drive is placed in the drive slot, replacing one that waits there (R113). -/
def placeDrive (o : DriveOrder) (s : State) : State :=
  { s with df.driveSlot := some { order := o, number := s.df.driveNext }, df.driveNext := nextNumber s.df.driveNext }

/-- An order for the doffer is placed in the doffer slot, replacing one that waits there (R114). -/
def placeDoffer (o : DofferOrder) (s : State) : State :=
  { s with df.dofferSlot := some { order := o, number := s.df.dofferNext }, df.dofferNext := nextNumber s.df.dofferNext }

/-- A number of milliseconds from a recipe field in seconds. -/
def ms (seconds : Nat) : Nat := seconds * 1000

/-- A forecast pass falls due, to be taken as an event of its own after those that fell due before it (R146). -/
def passDue (p : Pass) (s : State) : State := { s with rm.due := s.rm.due ++ [p] }

/-- A counter of the open shift is raised (R158). -/
def modCounters (f : ShiftCounters → ShiftCounters) (s : State) : State := { s with sa.counters := f s.sa.counters }

end Sys2Proof.Machine
end

