-- ==== Sys2Proof/Machine/Arith.lean ====
section
/-! DEFINITION. Delivery and production arithmetic (3.3 to 3.7). All products and sums are formed on the full values, and
truncation happens at each written division only. -/

namespace Sys2Proof.Machine

/-- The raw pulse delta of a report with count `p` (R48). -/
def pulseDelta (baseline : Option Nat) (p : Nat) : Nat :=
  match baseline with
  | none => 0
  | some b => (p + 65536 - b) % 65536

/-- The frame length and remainder after `delta` pulses of `pl` micrometres (R50). -/
def advanceLength (len rem pl delta : Nat) : Nat × Nat :=
  let t := rem + delta * pl
  (satAdd top48 len (t / 1000), t % 1000)

/-- The span since a mark (R54). -/
def span (len mark : Nat) : Nat := len - mark

/-- The open loss of a spindle since a mark: charged in a down state from the later of break mark and mark (R54). A down
state without a break mark is ruled out by R5 (log 25). -/
def openLoss (p : Spindle) (len mark : Nat) : Nat :=
  if p.state.isDown then len - max (p.breakMark.getD len) mark else 0

/-- The running length since a mark, `lost` being the spindle's lost counter of that mark (R55). -/
def runningLength (p : Spindle) (len mark lost : Nat) : Nat := span len mark - lost - openLoss p len mark

/-- Produced length in shift (R55). -/
def producedInShift (s : State) (p : Spindle) : Nat := runningLength p s.dc.frameLength s.sa.mark p.lostShift

/-- Cop length (R55). -/
def copLength (s : State) (p : Spindle) : Nat := runningLength p s.dc.frameLength s.df.mark p.lostDoff

/-- Running length since the fill (R55). -/
def runningSinceFill (p : Spindle) (f : Fill) (len : Nat) : Nat := runningLength p len f.mark p.lostFill

/-- Roving consumed in milligrams (R60). -/
def consumed (r : Recipe) (running : Nat) : Nat := running * r.countTex10 * (1000 + r.wastePm) / 10000000

/-- Roving remaining in milligrams, absent while the fill is absent (R60). -/
def remaining (r : Recipe) (p : Spindle) (len : Nat) : Option Nat :=
  p.fill.map (fun f => f.mass * 1000 - consumed r (runningSinceFill p f len))

/-- The forecast of a spindle with `mg` of roving remaining, in minutes (R61). -/
def forecastMinutes (r : Recipe) (mg : Nat) : Nat :=
  min 65535 (mg * 10000000 / (r.nominalRate * r.countTex10 * (1000 + r.wastePm)))

/-- The mass in milligrams of one spindle's yarn from its running length (R58). -/
def spindleMass (r : Recipe) (running : Nat) : Nat := running * r.countTex10 / 10000

/-- The produced length in metres of a set of spindles from the sum of their running lengths (R58). -/
def setLength (sum : Nat) : Nat := sum / 1000

/-- The produced mass in grams of a set of spindles from the sum of their running lengths, truncated once (R58). -/
def setMass (r : Recipe) (sum : Nat) : Nat := sum * r.countTex10 / 10000000

/-- The sum over every counted spindle of its produced length in the shift (R58). -/
def shiftSum (s : State) : Nat :=
  ((s.spindles.filter (fun p => p.counted)).map (producedInShift s)).sum

/-- The efficiency of the open shift in parts per thousand (R59). -/
def shiftEfficiency (s : State) : Option Nat :=
  let d := span s.dc.frameLength s.sa.mark * s.countedSpindles
  if d = 0 then none else some (shiftSum s * 1000 / d)

/-- The spindles for which `f` holds. -/
def countSpindles (s : State) (f : Spindle → Bool) : Nat := (s.spindles.filter f).length

/-- A shift record computed from the machine as it stands (R160). -/
def shiftRecord (s : State) (closedAt : Option Nat) : ShiftRecord :=
  { number := s.sa.number, openedAt := s.sa.openedAt, closedAt := closedAt,
    delivered := span s.dc.frameLength s.sa.mark / 1000,
    produced := setLength (shiftSum s),
    mass := setMass s.recipe (shiftSum s),
    efficiency := shiftEfficiency s,
    counted := s.countedSpindles,
    counters := s.sa.counters,
    rogue := countSpindles s (fun p => p.state == .rogue),
    starved := countSpindles s (fun p => p.state == .starved),
    offline := countSpindles s (fun p => p.state == .offline),
    slow := countSpindles s (fun p => p.counted && p.slow) }

/-- Closing a down interval of a record against the three marks (R56): the record's lost counters raised and its break mark
removed, as one change. -/
def closeInterval (len shiftMark doffMark : Nat) (p : Spindle) : Spindle :=
  match p.breakMark with
  | none => p
  | some bm =>
    { p with
      lostShift := satAdd top32 p.lostShift (len - max bm shiftMark)
      lostDoff := satAdd top32 p.lostDoff (len - max bm doffMark)
      lostFill := match p.fill with
        | none => p.lostFill
        | some f => satAdd top32 p.lostFill (len - max bm f.mark)
      breakMark := none }

end Sys2Proof.Machine
end

