-- ==== Sys2Proof/Machine/Flags.lean ====
section
/-! DEFINITION. The flags of the Event Unit: the 16 classes, raising one, and the notices that follow (R202 to R205). -/

namespace Sys2Proof.Machine

/-- The 16 event classes (R202). -/
inductive EventId where
  | reset
  | stationLost
  | driveJump
  | listFull
  | rogue
  | carriageOut
  | doffDue
  | doffDone
  | doffFault
  | frameStopped
  | rovingCall
  | lotFault
  | mailboxOverrun
  | shiftClosed
  | storeDone
  | lineErrors
  deriving DecidableEq, Repr

/-- A class's number (R202). -/
def EventId.num : EventId → Nat
  | .reset => 0
  | .stationLost => 1
  | .driveJump => 2
  | .listFull => 3
  | .rogue => 4
  | .carriageOut => 5
  | .doffDue => 6
  | .doffDone => 7
  | .doffFault => 8
  | .frameStopped => 9
  | .rovingCall => 10
  | .lotFault => 11
  | .mailboxOverrun => 12
  | .shiftClosed => 13
  | .storeDone => 14
  | .lineErrors => 15

/-- Class number `c` (log 25 outside 0..15). -/
def State.event (s : State) (c : Nat) : EventClass := s.events.getD c EventClass.clear

/-- The state with class `c` changed by `f`. -/
def modEvent (c : Nat) (f : EventClass → EventClass) (s : State) : State := { s with events := s.events.modify c f }

/-- A NOTICE for class `c` is queued with the class as it stands and the run clock; notice pending is cleared and notice
given set (R203). -/
def queueNotice (c : Nat) (s : State) : State :=
  let e := s.event c
  modEvent c (fun e => { e with pending := false, given := true })
    (originate (.notice c e.flag e.count e.detail s.dc.runClock) s)

/-- A NOTICE is queued, or notice pending is set when the own queue holds 16 frames (R203). -/
def admitNotice (c : Nat) (s : State) : State :=
  if s.ownHasRoom then queueNotice c s else modEvent c (fun e => { e with pending := true }) s

/-- A raise of a class with a detail (R203). -/
def raiseEvent (id : EventId) (detail : Nat) (s : State) : State :=
  let c := id.num
  let s1 := modEvent c (fun e => { e with flag := true, count := satAdd 255 e.count 1, detail := detail }) s
  if !(s.event c).flag && (s.event c).mask then admitNotice c s1 else s1

/-- The pending class with the lowest number. -/
def State.firstPending (s : State) : Option Nat := (List.range 16).find? (fun c => (s.event c).pending)

/-- A frame has left the own queue: the pending class with the lowest number, if any, is queued in its place (R203). -/
def refillOwn (s : State) : State :=
  match s.firstPending with
  | some c => queueNotice c s
  | none => s

/-- SET_MASK's action on one class (R205). -/
def setMaskBit (c : Nat) (opened : Bool) (s : State) : State :=
  let e := s.event c
  let s1 := modEvent c (fun e => { e with mask := opened, pending := if opened then e.pending else false }) s
  if opened && !e.mask && e.flag && !e.given then admitNotice c s1 else s1

/-- CLEAR_EVENTS' action on one class: the detail is kept (R205). -/
def clearEvent (c : Nat) (s : State) : State :=
  modEvent c (fun e => { e with flag := false, count := 0, pending := false, given := false }) s

end Sys2Proof.Machine
end

