-- ==== Sys2Proof/Machine/DispatchOps.lean ====
section
/-! DEFINITION. The Piecing Dispatcher's own operations: admission and removal, orders in the carriage slots, selection,
parking, and the return of a taken-back piece (4.1 to 4.5, 5.2). -/

namespace Sys2Proof.Machine

/-! ### Admission (R68, R69) -/

/-- A spindle joins the tail of its side's list as WAITING (R68). -/
def admitOne (n : Nat) (s : State) : State :=
  setListStatus n .waiting
    (setList (sideOf n)
      (s.list (sideOf n) ++
        [{ spindle := n, admittedAt := s.dc.runClock, status := .waiting, carriage := none, passedOver := false,
           holdPending := false, window := none }]) s)

/-- A break list is full at 48 entries (R66). -/
def State.listHasRoom (s : State) (side : Side) : Bool := (s.list side).length < 48

/-- The LIST_FULL detail of a side (R202). -/
def sideDetail : Side → Nat
  | .A => 1
  | .B => 2

/-- A spindle that has entered DOWN is handed for admission (R68). -/
def handForAdmission (n : Nat) (s : State) : State :=
  let side := sideOf n
  if (s.spindle n).held then setListStatus n .unlisted s
  else if s.listHasRoom side then admitOne n s
  else
    let s1 := setListStatus n .unlisted s
    if (s.event EventId.listFull.num).flag then s1 else raiseEvent .listFull (sideDetail side) s1

/-- Whether a spindle waits outside its list for room: DOWN, UNLISTED and unheld (R69). -/
def waitsOutside (p : Spindle) : Bool := p.state == .down && p.listStatus == .unlisted && !p.held

/-- Of two spindles with break marks, the one admitted first: lower break mark, ties to the lower number (R69). -/
def admittedBefore (s : State) (n m : Nat) : Bool :=
  let a := (s.spindle n).breakMark.getD 0
  let b := (s.spindle m).breakMark.getD 0
  a < b || (a == b && n < m)

/-- The side's UNLISTED spindle that goes in first, if any (R69). -/
def oldestOutside (side : Side) (s : State) : Option Nat :=
  (sideSpindles side).foldl
    (fun best n =>
      if waitsOutside (s.spindle n) then
        match best with
        | none => some n
        | some m => if admittedBefore s n m then some n else some m
      else best) none

/-- Admission one at a time, at most `fuel` times, until the list is full or no spindle waits outside (R69). -/
def admitLoop : Nat → Side → State → State
  | 0, _, s => s
  | fuel + 1, side, s =>
    if s.listHasRoom side then
      match oldestOutside side s with
      | some n => admitLoop fuel side (admitOne n s)
      | none => s
    else s

/-- Admission for a side (R69); a list has at most 48 places to fill. -/
def admission (side : Side) (s : State) : State := admitLoop 48 side s

/-! ### Carriage orders (R92 to R96) -/

/-- Whether a carriage order is a PIECE. -/
def OrderKind.isPiece : OrderKind → Bool
  | .piece _ _ => true
  | .cancel => false
  | .park => false

/-- The carriage state that goes with an order just placed (R91, R92, R94, R95). -/
def OrderKind.placedState : OrderKind → CarriageState
  | .piece _ _ => .assigned
  | .cancel => .working
  | .park => .parking

/-- An order is placed in a carriage's slot, whatever the slot holds: it takes the next number, and the order timer is
loaded for a PIECE or a CANCEL and stopped for a PARK (R92, R94, R95). -/
def placeOrder (side : Side) (k : OrderKind) (s : State) : State :=
  modCarriage side (fun c =>
    { c with
      slot := some { kind := k, number := c.nextNumber, collected := false }
      nextNumber := nextNumber c.nextNumber
      state := k.placedState
      timer := if k = .park then c.timer.stop else Timer.load (ms s.recipe.orderLimit) }) s

/-- The slot empties, and the order timer stops (R98, R100). -/
def emptySlot (side : Side) : State → State :=
  modCarriage side (fun c => { c with slot := none, timer := c.timer.stop })

/-- The spindle of the carriage's outstanding PIECE, if it is still SERVICING (R92). -/
def State.servicedBy (s : State) (side : Side) : Option Nat :=
  match (s.carriage side).slot with
  | some { kind := .piece n _, .. } => if (s.spindle n).state = .servicing then some n else none
  | _ => none

/-- A piece is taken back: the spindle returns from SERVICING to DOWN and its entry to WAITING, in its place, with no
attempt counted (R71). -/
def returnToWaiting (n : Nat) (s : State) : State :=
  modEntry n (fun e => { e with status := .waiting, carriage := none })
    (modSpindle n (fun p => { p with state := .down, listStatus := .waiting }) s)

/-- The carriage's PIECE, if its spindle is still SERVICING, is taken back (R71). -/
def takeBackPiece (side : Side) (s : State) : State :=
  match s.servicedBy side with
  | some n => returnToWaiting n s
  | none => s

/-- A CANCEL is placed for the PIECE that names spindle `n` (R96). -/
def cancelPiece (n : Nat) (s : State) : State :=
  match (s.carriage (sideOf n)).slot with
  | some { kind := .piece m _, .. } => if m = n then placeOrder (sideOf n) .cancel s else s
  | _ => s

/-! ### Selection (R77 to R80) -/

/-- Whether a carriage may be given a PIECE: the five conditions (R77). -/
def dispatchable (side : Side) (s : State) : Bool :=
  s.df.state == .spinning && s.si.gate == .opened && !s.pd.globalHold && (s.carriage side).state == .idle &&
  (s.list side).any (fun e => e.status == .waiting)

/-- Whether an entry is WAITING and has waited its age (R78). -/
def State.aged (s : State) (e : Entry) : Bool :=
  e.status == .waiting && s.recipe.ageLimit ≤ s.dc.runClock - e.admittedAt

/-- The least element of a list under a comparison, the earlier one where two compare alike. -/
def leastBy (before : Entry → Entry → Bool) : List Entry → Option Entry
  | [] => none
  | e :: rest =>
    match leastBy before rest with
    | none => some e
    | some m => if before m e then some m else some e

/-- The age override's choice: lowest admitted at, ties to the lower spindle number (R78). -/
def agedChoice (side : Side) (s : State) : Option Entry :=
  leastBy (fun x y => x.admittedAt < y.admittedAt || (x.admittedAt == y.admittedAt && x.spindle < y.spindle))
    ((s.list side).filter s.aged)

/-- The distance between two positions (R79). -/
def distance (a b : Nat) : Nat := (a - b) + (b - a)

/-- Whether position `p` lies at or beyond position `c` in a direction (R79). -/
def Direction.reaches : Direction → Nat → Nat → Bool
  | .up, c, p => c ≤ p
  | .down, c, p => p ≤ c

/-- The other direction. -/
def Direction.reverse : Direction → Direction
  | .up => .down
  | .down => .up

/-- The nearest eligible entry in a direction: WAITING and not passed over (R79). -/
def sweepChoice (side : Side) (d : Direction) (s : State) : Option Entry :=
  let c := (s.carriage side).position
  leastBy (fun x y => distance (positionOf x.spindle) c < distance (positionOf y.spindle) c)
    ((s.list side).filter (fun e => e.status == .waiting && !e.passedOver && d.reaches c (positionOf e.spindle)))

/-- The direction of a carriage at `c` toward an entry at `p` (R79). -/
def Direction.toward (d : Direction) (c p : Nat) : Direction :=
  if c < p then .up else if p < c then .down else d

/-- The chosen spindle is given to the carriage (R80), and the carriage's direction is set toward it (R79). -/
def assignPiece (side : Side) (n : Nat) (s : State) : State :=
  let p := positionOf n
  let s := modEntry n (fun e => { e with status := .assigned, carriage := some side }) s
  let s := modSpindle n (fun q => { q with state := .servicing, listStatus := .assigned }) s
  let s := modCarriage side (fun c => { c with direction := c.direction.toward c.position p }) s
  placeOrder side (.piece n p) s

/-- Selection for a carriage whose dispatch conditions all hold: the age override first, then the sweep in the current
direction, then the sweep reversed. A reversal that finds nothing stands (R78, R79; log 14). -/
def selectFor (side : Side) (s : State) : State :=
  if dispatchable side s then
    match agedChoice side s with
    | some e => assignPiece side e.spindle s
    | none =>
      match sweepChoice side (s.carriage side).direction s with
      | some e => assignPiece side e.spindle s
      | none =>
        let s1 := modCarriage side (fun c => { c with direction := c.direction.reverse }) s
        match sweepChoice side (s1.carriage side).direction s1 with
        | some e => assignPiece side e.spindle s1
        | none => s1
  else s

/-- Selection for both carriages (R77). -/
def selectBoth (s : State) : State := selectFor .B (selectFor .A s)

/-- Admission for a side, and selection for its carriage after any admission it made (R69, R75, R77). -/
def admitThenSelect (side : Side) (s : State) : State :=
  let s1 := admission side s
  if (s.list side).length < (s1.list side).length then selectFor side s1 else s1

/-- The passed over marks of a side are cleared (R81). -/
def clearPassedOver (side : Side) (s : State) : State :=
  setList side ((s.list side).map (fun e => { e with passedOver := false })) s

/-- A carriage enters IDLE from OUT or PARKED, or from an uncollected PARK: the side's passed over marks are cleared
(R81, R103). -/
def enterIdle (side : Side) (s : State) : State :=
  clearPassedOver side (modCarriage side (fun c => { c with state := .idle }) s)

/-! ### Removal (R70, R74) -/

/-- A spindle leaves dispatch: its entry, with its verify window, or its UNLISTED status goes, and a hold pending on the
entry becomes held (R70 step 1, R74). -/
def leaveDispatch (n : Nat) (s : State) : State :=
  let pendingHold := (s.entry? n).any (fun e => e.holdPending)
  modSpindle n (fun p => { p with held := p.held || pendingHold, listStatus := .none }) (dropEntry n s)

/-- Whether a spindle has an entry. -/
def State.listed (s : State) (n : Nat) : Bool := (s.entry? n).isSome

/-- What follows a removal: admission for the side, then selection for its carriage (R70 steps 3 and 4); nothing when no
entry was removed. -/
def afterRemoval (removed : Bool) (side : Side) (s : State) : State :=
  if removed then selectFor side (admission side s) else s

/-- A spindle is removed from dispatch with what follows (R70). -/
def removeFromDispatch (n : Nat) (s : State) : State := afterRemoval (s.listed n) (sideOf n) (leaveDispatch n s)

/-! ### Attempts and verification (R82, R83, R85) -/

/-- A failed attempt on a spindle (R85), with its removal and admission where it becomes ROGUE or was to be held (R74); the
selection that follows is the caller's. -/
def failedAttempt (n : Nat) (s : State) : State :=
  let pendingHold := (s.entry? n).any (fun e => e.holdPending)
  let s := modSpindle n (fun p => { p with attempts := p.attempts + 1 }) s
  let s := modCounters (fun c => { c with failed := satAdd top32 c.failed 1 }) s
  if s.recipe.attemptLimit ≤ (s.spindle n).attempts then
    let s := leaveDispatch n (modSpindle n (fun p => { p with state := .rogue }) s)
    admission (sideOf n) (raiseEvent .rogue n s)
  else if pendingHold then
    let s := leaveDispatch n (modSpindle n (fun p => { p with state := .down }) s)
    admission (sideOf n) (setListStatus n .unlisted s)
  else
    modEntry n (fun e => { e with status := .waiting, carriage := none, window := none })
      (modSpindle n (fun p => { p with state := .down, listStatus := .waiting }) s)

/-- A PIECED outcome on a SERVICING spindle: spindle and entry VERIFYING, the window loaded and running while the gate is
OPEN (R82). -/
def startVerifying (n : Nat) (s : State) : State :=
  let w : Timer := { left := ms s.recipe.verifyWindow, running := s.si.gate == .opened }
  modEntry n (fun e => { e with status := .verifying, carriage := none, window := some w })
    (modSpindle n (fun p => { p with state := .verifying, listStatus := .verifying }) s)

/-- Both lists with every entry changed by `f`. -/
def modAllEntries (f : Entry → Entry) (s : State) : State :=
  { s with pd.lists := { a := s.pd.lists.a.map f, b := s.pd.lists.b.map f } }

/-- The gate has become OPEN: every VERIFYING entry's window is loaded afresh and started (R83). -/
def startWindows (s : State) : State :=
  modAllEntries (fun e =>
    if e.status = .verifying then { e with window := some (Timer.load (ms s.recipe.verifyWindow)) } else e) s

/-- The gate has left OPEN: every running window is stopped, and its time left is discarded (R83). -/
def stopWindows (s : State) : State :=
  modAllEntries (fun e => { e with window := e.window.map (fun w => if w.running then Timer.expired else w) }) s

/-! ### Parking (R102) -/

/-- A carriage is asked to park (R102): a PARK replaces or supersedes whatever the slot holds, except on a carriage that is
PARKING, PARKED or OUT. -/
def parkCarriage (side : Side) (s : State) : State :=
  match (s.carriage side).state with
  | .idle => placeOrder side .park s
  | .assigned => placeOrder side .park (takeBackPiece side s)
  | .working => placeOrder side .park (takeBackPiece side s)
  | .parking => s
  | .parked => s
  | .out => s

/-- A carriage counts as parked for the Doff Controller when it is PARKED or OUT (R91). -/
def Carriage.away (c : Carriage) : Bool := c.state == .parked || c.state == .out

/-- A carriage as the frame returns to spinning (R103). -/
def returnCarriage (side : Side) (s : State) : State :=
  let c := s.carriage side
  match c.state with
  | .parked => enterIdle side s
  | .parking =>
    if c.slot.any (fun o => o.collected) then s else enterIdle side (emptySlot side s)
  | .idle => s
  | .assigned => s
  | .working => s
  | .out => s

/-- The order timer of a PARK that the park timer no longer bounds is loaded and started (R92). -/
def boundPark (side : Side) (s : State) : State :=
  modCarriage side (fun c =>
    if c.slot.any (fun o => o.kind == .park) then { c with timer := Timer.load (ms s.recipe.orderLimit) } else c) s

end Sys2Proof.Machine
end

