-- ==== Sys2Proof/Machine/DoffOps.lean ====
section
/-! DEFINITION. The Doff Controller's own operations: entries into its states and what they hand on (chapter 6). -/

namespace Sys2Proof.Machine

/-- The doff span (R112). -/
def State.doffSpan (s : State) : Nat := span s.dc.frameLength s.df.mark

/-- The state with the doff state set. -/
def setDoff (x : DoffState) (s : State) : State := { s with df.state := x }

/-- The doff timer loaded with doff_limit and started (R121, R122, R128). -/
def loadDoffTimer (s : State) : State := { s with df.doffTimer := DoffTimer.load (ms s.recipe.doffLimit) }

/-- The doff timer stopped. -/
def stopDoffTimer (s : State) : State := { s with df.doffTimer := s.df.doffTimer.stop }

/-- The park timer stops; a PARK still in a slot comes under its order timer (R92, R119). -/
def stopParkTimer (s : State) : State :=
  boundPark .B (boundPark .A { s with df.parkTimer := s.df.parkTimer.stop })

/-- Entry into STOPPING (R121). -/
def enterStopping (s : State) : State :=
  let s := setDoff .stopping (loadDoffTimer (placeDrive .stop s))
  match s.df.stopTime with
  | some _ => s
  | none => { s with df.stopTime := some s.dc.runClock }

/-- The test of the wait for parking in DUE (R119): made at the entry and at each entry of a carriage into PARKED or
OUT. -/
def parkWait (s : State) : State :=
  if s.df.state = .due ∧ (s.carriage .A).away ∧ (s.carriage .B).away then enterStopping (stopParkTimer s) else s

/-- Entry into DUE with DOFF_DUE's detail (R118, R119, R102). -/
def enterDue (detail : Nat) (s : State) : State :=
  let s := setDoff .due (raiseEvent .doffDue detail s)
  let s := parkCarriage .B (parkCarriage .A s)
  parkWait { s with df.parkTimer := Timer.load (ms s.recipe.parkLimit) }

/-- The due test (R118). -/
def dueTest (s : State) : State :=
  if s.df.inhibit then
    if s.recipe.doffTarget + s.recipe.doffOverrun ≤ s.doffSpan then enterDue 1 s else s
  else if s.recipe.doffTarget ≤ s.doffSpan then enterDue 0 s else s

/-- The seconds from the stop-time timer's start to the run clock go to the open shift's doff stop seconds (R127, R134,
R162). -/
def chargeStopTime (s : State) : State :=
  match s.df.stopTime with
  | some t => modCounters (fun c => { c with stopSeconds := satAdd top32 c.stopSeconds (s.dc.runClock - t) }) s
  | none => s

/-- The stop-time timer stops (R127). -/
def stopStopTime (s : State) : State := let s := chargeStopTime s; { s with df.stopTime := none }

/-- A doff in progress found on a spinning frame is given up (R116, R117). -/
def dropProgress (s : State) : State :=
  if s.df.inProgress then
    raiseEvent .doffFault 8 { s with df.inProgress := false, df.lastSegment := 0 }
  else s

/-- Entry into SPINNING, from any state (R117, R103): the carriages are returned and selection runs, the stop-time timer
stops, a doff in progress is given up, and the due test is made. -/
def enterSpinning (s : State) : State :=
  let s := returnCarriage .B (returnCarriage .A (setDoff .spinning s))
  dueTest (dropProgress (stopStopTime (selectBoth s)))

/-- HALTED by another hand or by the loss of the drive: FRAME_STOPPED is raised (R117, R119, R129). -/
def enterHalted (detail : Nat) (s : State) : State := raiseEvent .frameStopped detail (setDoff .halted s)

/-- Entry into FAULTED with a cause (R124): from DOFFING a DOFF_PAUSE is placed. -/
def enterFaulted (cause : Nat) (s : State) : State :=
  let s1 := if s.df.state = .doffing then placeDoffer .pause s else s
  stopDoffTimer (setDoff .faulted (raiseEvent .doffFault cause s1))

/-- Entry into DOFFING from STOPPING, BLOCKED or FAULTED (R122). -/
def enterDoffing (s : State) : State :=
  let s := placeDoffer (.go (s.df.lastSegment + 1)) { s with df.inProgress := true }
  setDoff .doffing (loadDoffTimer s)

/-- Doff completion, on entry into RESTARTING (R128). -/
def completeDoff (detail : Nat) (s : State) : State :=
  let s := { s with df.mark := s.dc.frameLength }
  let s := modAllSpindles (fun p => { p with lostDoff := 0 }) s
  let s := { s with df.lastSegment := 0, df.inProgress := false }
  let s := modCounters (fun c => { c with doffs := satAdd top32 c.doffs 1 }) s
  let s := raiseEvent .doffDone detail s
  setDoff .restarting (loadDoffTimer (placeDrive .run s))

/-- A report taken at `s` has left `t`: where the doff timer ran before it and runs, loaded afresh, after it, an expiry that fell
together with the report comes to nothing (R133, log 40). -/
def overtakeDoff (s t : State) : State :=
  if s.df.doffTimer.mode = .running ∧ t.df.doffTimer.mode = .running then { t with overtaken.doff := true } else t

/-- FRAME_STOPPED's detail for a drive state seen outside RUNNING (R117). -/
def stopDetail : DriveState → Nat
  | .running => 0
  | .stopping => 1
  | .stopped => 2
  | .fault => 3

/-- What the Doff Controller makes of a drive report, by its state (R116, R117, R119, R121 to R124, R126, R129). `changed`
is the report's mark (R51), `refound` says that it is the first report after a refinding of the drive. -/
def doffTakesReport (d : DriveState) (changed refound : Bool) (s : State) : State :=
  match s.df.state with
  | .looking =>
    match d, s.df.inProgress with
    | .running, _ => enterSpinning s
    | .stopped, true => enterFaulted 8 s
    | .stopped, false => setDoff .halted s
    | .stopping, _ => setDoff .halted s
    | .fault, _ => setDoff .halted s
  | .spinning => if d = .running then dueTest s else enterHalted (stopDetail d) s
  | .halted => if d = .running ∧ (changed ∨ refound) then enterSpinning s else s
  | .due => if d = .running then s else enterHalted (stopDetail d) (stopParkTimer s)
  | .stopping =>
    match d with
    | .stopped => if s.df.inhibit then setDoff .blocked (stopDoffTimer s) else enterDoffing (stopDoffTimer s)
    | .fault => enterFaulted 2 s
    | .running => s
    | .stopping => s
  | .doffing => if d = .running then enterFaulted 7 s else s
  | .suspended => if d = .running then enterFaulted 7 s else s
  | .faulted => s
  | .blocked => s
  | .restarting => if d = .running then overtakeDoff s (enterSpinning (stopDoffTimer s)) else s

/-- What the Doff Controller makes of the loss of the drive station (R117, R119, R121). -/
def doffLosesDrive (s : State) : State :=
  match s.df.state with
  | .spinning => enterHalted 4 s
  | .due => enterHalted 4 (stopParkTimer s)
  | .stopping => enterFaulted 3 s
  | .looking => s
  | .halted => s
  | .doffing => s
  | .suspended => s
  | .faulted => s
  | .blocked => s
  | .restarting => s

/-- What the Doff Controller makes of the loss of the doffer station (R122, R123, R182). -/
def doffLosesDoffer (s : State) : State :=
  if s.df.state = .doffing ∨ s.df.state = .suspended then enterFaulted 5 s else s

/-- Whether a doffer report is taken by the doff state (R115). -/
def State.takesDofferReport (s : State) : Bool :=
  s.df.state == .doffing || s.df.state == .suspended || (s.df.state == .faulted && s.df.inProgress)

/-- An ignored doffer report (R115). -/
def ignoreReport (s : State) : State := { s with df.ignored := satAdd top16 s.df.ignored 1 }

/-- DOFF_STEP (R115). -/
def takeDoffStep (k : Nat) (s : State) : State :=
  if s.takesDofferReport && 1 ≤ k && k ≤ 80 then { s with df.lastSegment := max s.df.lastSegment k } else ignoreReport s

/-- DOFF_END, done or fault (R115). -/
def takeDoffEnd (done : Bool) (s : State) : State :=
  if s.takesDofferReport then
    if done then overtakeDoff s (completeDoff 0 s)
    else if s.df.state = .faulted then s
    else enterFaulted 4 s
  else ignoreReport s

end Sys2Proof.Machine
end

