-- ==== Sys2Proof/Machine/CarriageOps.lean ====
section
/-! DEFINITION. What a carriage's record and slot do at acknowledgements, outcomes, places, losses and findings
(chapter 5). -/

namespace Sys2Proof.Machine

/-- A carriage enters OUT (R100): its piece is taken back, the slot empties and the order timer stops; CARRIAGE_OUT is
raised where the cause says so; the Doff Controller's wait is tested (R119). -/
def carriageGoesOut (side : Side) (raised : Bool) (s : State) : State :=
  if (s.carriage side).state = .out then s
  else
    let s := emptySlot side (takeBackPiece side s)
    let s := modCarriage side (fun c => { c with state := .out }) s
    let s := if raised then raiseEvent .carriageOut (carriageAddress side) s else s
    parkWait s

/-- An own acknowledgement: the outstanding order with that number, if not yet collected, is collected (R93). -/
def collectOrder (side : Side) (number : Nat) (s : State) : State :=
  match (s.carriage side).slot with
  | none => s
  | some o =>
    if o.number = number ∧ o.collected = false then
      modCarriage side (fun c =>
        { c with
          slot := some { o with collected := true }
          state := if o.kind.isPiece then .working else c.state
          timer := if o.kind = .park ∧ c.timer.running = false then c.timer
                   else Timer.load (ms s.recipe.orderLimit) }) s
    else s

/-- The outcome kinds (R97, R216). -/
inductive Outcome where
  | pieced
  | missed
  | blocked
  | cancelled
  | parked
  | refused
  | fault
  deriving DecidableEq, Repr

/-- The outcome kind of a code; a code outside 1..7 names none (R216). -/
def outcomeOf : Nat → Option Outcome
  | 1 => some .pieced
  | 2 => some .missed
  | 3 => some .blocked
  | 4 => some .cancelled
  | 5 => some .parked
  | 6 => some .refused
  | 7 => some .fault
  | _ => none

/-- Whether an outcome kind fits an order's kind (R97). -/
def fits : OrderKind → Outcome → Bool
  | .piece _ _, x => x == .pieced || x == .missed || x == .blocked || x == .refused || x == .fault
  | .cancel, x => x == .cancelled || x == .refused || x == .fault
  | .park, x => x == .parked || x == .refused || x == .fault

/-- A BLOCKED piece: the entry goes to the tail, WAITING, with a new admitted at and passed over (R71, R81). -/
def blockEntry (n : Nat) (s : State) : State :=
  let side := sideOf n
  let s := modSpindle n (fun p => { p with state := .down, listStatus := .waiting }) s
  match s.entry? n with
  | none => s
  | some e =>
    let s1 := dropEntry n s
    setList side (s1.list side ++
      [{ e with status := .waiting, carriage := none, admittedAt := s.dc.runClock, passedOver := true }]) s1

/-- The carriage is freed: slot empty, IDLE (R98, R99). -/
def freeCarriage (side : Side) (s : State) : State :=
  modCarriage side (fun c => { c with state := .idle }) (emptySlot side s)

/-- The effect of a matched outcome of a PIECE or a CANCEL that frees the carriage, or of any order's REFUSED or FAULT
(R98, R99); the spindle is touched only while it is still SERVICING. -/
def applyOutcome (side : Side) (x : Outcome) (s : State) : State :=
  match x, s.servicedBy side with
  | .pieced, some n => freeCarriage side (startVerifying n s)
  | .pieced, none => freeCarriage side s
  | .missed, some n => freeCarriage side (failedAttempt n s)
  | .missed, none => freeCarriage side s
  | .blocked, some n => freeCarriage side (blockEntry n s)
  | .blocked, none => freeCarriage side s
  | .cancelled, _ => freeCarriage side s
  | .refused, _ => carriageGoesOut side true s
  | .fault, _ => carriageGoesOut side true s
  | .parked, _ =>
    let s := modCarriage side (fun c => { c with state := .parked, position := 0 }) (emptySlot side s)
    if s.df.state = .spinning then enterIdle side s else parkWait s

/-- An outcome taken at `s` has left `t`: where the order timer ran before it and runs, loaded for the next order, after it, an
expiry that fell together with the outcome comes to nothing (R109, log 40). -/
def overtakeOrder (side : Side) (s t : State) : State :=
  if (s.carriage side).timer.running && (t.carriage side).timer.running then
    { t with overtaken.orders := t.overtaken.orders.set side true }
  else t

/-- A matched outcome (R97): collected if it was not, the position taken (R101), the effect, the passed over marks cleared
unless it is BLOCKED (R81), and selection (R77). -/
def matchedOutcome (side : Side) (number : Nat) (x : Outcome) (position : Nat) (s : State) : State :=
  let s1 := collectOrder side number s
  let s2 := modCarriage side (fun c => { c with position := min 960 position }) s1
  let s3 := if x = .blocked then s2 else clearPassedOver side s2
  overtakeOrder side s (selectFor side (applyOutcome side x s3))

/-- A stale outcome raises the stale count and changes nothing else (R97). -/
def staleOutcome (side : Side) : State → State :=
  modCarriage side (fun c => { c with stale := satAdd top16 c.stale 1 })

/-- The outcome kind that matches the carriage's outstanding order by number and kind, if it does (R97). The outcome of a PIECE that a
CANCEL or PARK has taken the place of matches nothing: it is stale, and the carriage waits for the outcome of the new order (R94, R95),
where R17, R70, R72 and R87 say of a cancelled PIECE's outcome that it only frees the carriage (log 42). -/
def State.matchOutcome (s : State) (side : Side) (number code : Nat) : Option Outcome :=
  if (s.carriage side).state = .out then none
  else
    match (s.carriage side).slot, outcomeOf code with
    | some o, some x => if o.number = number ∧ fits o.kind x then some x else none
    | _, _ => none

/-- An OUTCOME report (R97). -/
def takeOutcome (side : Side) (number code position : Nat) (s : State) : State :=
  match s.matchOutcome side number code with
  | some x => matchedOutcome side number x position s
  | none => staleOutcome side s

/-- A PLACE report (R101), after which selection runs (R77). -/
def takePlace (side : Side) (position : Nat) (d : Direction) (s : State) : State :=
  selectFor side (modCarriage side (fun c => { c with position := min 960 position, direction := d }) s)

/-- A carriage restored or first found: IDLE with selection while the Doff Controller is in SPINNING, PARKED otherwise
(R105, R107). -/
def bringBack (side : Side) (s : State) : State :=
  if s.df.state = .spinning then selectFor side (enterIdle side s)
  else parkWait (modCarriage side (fun c => { c with state := .parked }) s)

/-- A lost carriage station is found (R105): its carriage, OUT since the loss or the reset, comes back while it awaits its first
finding. -/
def carriageFound (side : Side) (s : State) : State :=
  if (s.carriage side).state = .out ∧ (s.carriage side).awaiting then
    bringBack side (modCarriage side (fun c => { c with awaiting := false }) s)
  else s

/-- HALT has gone out: a carriage not OUT is PARKED where it stands and its piece taken back (R104); its entry into PARKED is
one at which DUE's wait is tested (R119). -/
def haltCarriage (side : Side) (s : State) : State :=
  if (s.carriage side).state = .out then s
  else
    let s := emptySlot side (takeBackPiece side s)
    parkWait (modCarriage side (fun c => { c with state := .parked }) s)

end Sys2Proof.Machine
end

