-- ==== Sys2Proof/Config.lean ====
section
/-! DEFINITION. The free values: what the spec leaves open and the part goes on after. Each is an opaque
constant, so that nothing can be proved of its value; it is applied to the model's own counter `freeCount`
where it may differ from one occasion to the next. -/

namespace Sys2Proof.Config

/-- FREE VALUE (log 4). "A power loss during a store may leave a stored profile that fails its check" (R208):
whether the stored profile still passes its check after such a loss. -/
opaque storeCheckSurvives : Nat → Bool

/-- FREE VALUE (log 5). R195 says that the UP transmitter "sends only while its link is up", and does not say
what becomes of a frame that is in transmission when the link goes: whether it stays in the transmitter. -/
opaque upFrameKept : Nat → Bool

/-- FREE VALUE (log 6). R187 and R199 say that a STATION_ORDER is answered, and R214 that a REPLY opens with the
request code; a STATION_ORDER has no request code, and the spec states none. -/
opaque stationOrderCode : Nat

end Sys2Proof.Config
end

