-- ==== Sys2Proof/Machine/Formats.lean ====
section
/-! DEFINITION. Byte layouts: numbers, the CRC-16, mill frames, line messages, reports, and the records as read
(chapter 11). -/

namespace Sys2Proof.Machine

/-! ### Numbers and the check (R213) -/

/-- A whole number in `n` bytes, high byte first (R213). -/
def bigEndian : Nat → Nat → List Byte
  | 0, _ => []
  | n + 1, v => bigEndian n (v / 256) ++ [BitVec.ofNat 8 v]

/-- The number of a string of bytes, high byte first (R213). -/
def fromBytes (bs : List Byte) : Nat := bs.foldl (fun a b => a * 256 + b.toNat) 0

/-- One bit into the CRC register (R213). -/
def crcBit (r : BitVec 16) (b : Bool) : BitVec 16 :=
  if r.msb = b then r <<< 1 else (r <<< 1) ^^^ 0x1021#16

/-- One byte into the CRC register, most significant bit first (R213). -/
def crcByte (r : BitVec 16) (b : Byte) : BitVec 16 :=
  (List.range 8).foldl (fun q i => crcBit q (b.getMsbD i)) r

/-- The CRC-16 of a string of bytes (R213). -/
def crc16 (bs : List Byte) : BitVec 16 := bs.foldl crcByte 0xFFFF#16

/-- The CRC as sent, high byte first (R213). -/
def crcBytes (bs : List Byte) : List Byte := bigEndian 2 (crc16 bs).toNat

/-- A header field of one byte. -/
def byte (n : Nat) : Byte := BitVec.ofNat 8 n

/-! ### The mill frame (R214) -/

/-- The opening mark of a mill frame. -/
def millMark : Byte := 0xC3#8

/-- A mill frame as sent (R214). -/
def RawFrame.encode (f : RawFrame) : List Byte :=
  let covered := [byte f.dest, byte f.src, byte f.type] ++ bigEndian 2 f.seq ++ bigEndian 2 f.payload.length ++ f.payload
  millMark :: covered ++ crcBytes covered

/-- The check of a received mill frame (R193, R214): bytes before the opening mark are skipped; the frame fails when it is
too short, when its length field disagrees with the payload that arrived or is above 1,024, or when its CRC fails. -/
def parseMillFrame (bytes : List Byte) : Option RawFrame :=
  match bytes.dropWhile (fun b => !(b == millMark)) with
  | [] => none
  | _ :: rest =>
    if rest.length < 9 then none
    else
      let covered := rest.take (rest.length - 2)
      let payload := covered.drop 7
      let len := fromBytes ((covered.drop 5).take 2)
      if len = payload.length ∧ len ≤ 1024 ∧ crcBytes covered = rest.drop (rest.length - 2) then
        some { dest := fromBytes (covered.take 1), src := fromBytes ((covered.drop 1).take 1),
               type := fromBytes ((covered.drop 2).take 1), seq := fromBytes ((covered.drop 3).take 2),
               payload := payload }
      else none

/-! ### The line message (R215) -/

/-- The opening mark of a line message. -/
def lineMark : Byte := 0xA5#8

/-- The flag byte of a line message. -/
def LineMessage.flags (m : LineMessage) : Nat := (if m.mill then 1 else 0) + (if m.present then 2 else 0)

/-- A line message as sent (R215). -/
def LineMessage.encode (m : LineMessage) : List Byte :=
  let covered :=
    [byte m.dest, byte m.src, byte m.kind, byte m.orderKind, byte m.orderNumber, byte m.reportNumber, byte m.flags,
     byte m.payload.length] ++ m.payload
  lineMark :: covered ++ crcBytes covered

/-- The check of a received line message (R215): `none` is a failed one. -/
def parseLineMessage (bytes : List Byte) : Option LineMessage :=
  match bytes.dropWhile (fun b => !(b == lineMark)) with
  | [] => none
  | _ :: rest =>
    if rest.length < 10 then none
    else
      let covered := rest.take (rest.length - 2)
      let payload := covered.drop 8
      let field := fun i => fromBytes ((covered.drop i).take 1)
      if field 7 = payload.length ∧ field 7 ≤ 64 ∧ crcBytes covered = rest.drop (rest.length - 2) then
        some { dest := field 0, src := field 1, kind := field 2, orderKind := field 3, orderNumber := field 4,
               reportNumber := field 5, mill := (field 6).testBit 0, present := (field 6).testBit 1,
               payload := payload }
      else none

/-! ### Line kinds (R215) -/

/-- Codes 00h, 05h..07h, 0Fh and 19h..1Fh name no kind (R215). -/
def namesKind (k : Nat) : Bool := (1 ≤ k && k ≤ 4) || (8 ≤ k && k ≤ 14) || (16 ≤ k && k ≤ 24)

/-- The nine order kinds: RUN to SERVICE (R198). -/
def isOrderKind (k : Nat) : Bool := 16 ≤ k && k ≤ 24

/-- A report in a station message: its kind code and body (R215). -/
structure Report where
  kind : Nat
  body : List Byte
  deriving DecidableEq, Repr

/-- The reports of a payload in the order they stand, at most `fuel` of them: one whose length runs past the end is not taken,
nor any after it (R215). A last byte alone, a kind code with no length byte, is dropped likewise, a case the spec leaves open (log 38). -/
def reportsOf : Nat → List Byte → List Report
  | 0, _ => []
  | fuel + 1, k :: b :: rest =>
    if rest.length < b.toNat then []
    else { kind := k.toNat, body := rest.take b.toNat } :: reportsOf fuel (rest.drop b.toNat)
  | _ + 1, _ => []

/-- The reports of a station message. -/
def LineMessage.reports (m : LineMessage) : List Report := reportsOf m.payload.length m.payload

/-- The line kind and body of a carriage order (R215, R216). -/
def OrderKind.line : OrderKind → Nat × List Byte
  | .piece n p => (0x12, bigEndian 2 n ++ bigEndian 2 p)
  | .cancel => (0x13, [])
  | .park => (0x14, [])

/-- The line kind and body of a drive order (R215, R216). -/
def DriveOrder.line : DriveOrder → Nat × List Byte
  | .run => (0x10, [])
  | .stop => (0x11, [])

/-- The line kind and body of a doffer order (R215, R216). -/
def DofferOrder.line : DofferOrder → Nat × List Byte
  | .go k => (0x15, [byte k])
  | .pause => (0x16, [])
  | .resume => (0x17, [])

/-! ### Answer codes and records (R214, R217) -/

/-- The code of an answer (R214). -/
def Answer.code : Answer → Nat
  | .done => 0
  | .clamped _ => 1
  | .busy => 2
  | .state => 3
  | .argument => 4
  | .unknown => 5
  | .notArmed => 6
  | .mailboxFull => 7
  | .denied => 8

/-- The code of a spindle state (R217). -/
def SpindleState.code : SpindleState → Nat
  | .vacant => 0
  | .offline => 1
  | .unseen => 2
  | .spinning => 3
  | .down => 4
  | .servicing => 5
  | .verifying => 6
  | .starved => 7
  | .rogue => 8

/-- The code of a latched value (R217). -/
def senseCode : Option Sense → Nat
  | none => 0
  | some .spinning => 1
  | some .endDown => 2
  | some .lagging => 3
  | some .noRoving => 4

/-- The code of a list status (R217). -/
def ListStatus.code : ListStatus → Nat
  | .none => 0
  | .waiting => 1
  | .assigned => 2
  | .verifying => 3
  | .unlisted => 4

/-- A flag bit. -/
def flagBit (b : Bool) (i : Nat) : Nat := if b then 2 ^ i else 0

/-- A spindle record of 32 bytes (R217); an absent field is sent as zero (R213). -/
def SpindleView.encode (v : SpindleView) : List Byte :=
  bigEndian 2 v.number ++ [byte v.state.code] ++
  [byte (flagBit v.held 0 + flagBit v.slow 1 + flagBit v.lotReported 2 + flagBit v.breakMark.isSome 4 +
    flagBit v.remaining.isSome 5 + flagBit v.fillMass.isSome 6)] ++
  [byte (senseCode v.latched), byte v.attempts, byte v.breaks, byte v.listStatus.code] ++
  bigEndian 6 (v.breakMark.getD 0) ++ bigEndian 6 v.produced ++ bigEndian 6 v.cop ++
  bigEndian 4 (v.remaining.getD 0) ++ bigEndian 2 (v.fillMass.getD 0)

/-- The shift record of 74 bytes read at an index (R217). -/
def ShiftRecord.encode (index : Nat) (r : ShiftRecord) : List Byte :=
  [byte index] ++ bigEndian 2 r.number ++ [byte (flagBit r.efficiency.isSome 0 + flagBit r.closedAt.isSome 1)] ++
  bigEndian 4 r.openedAt ++ bigEndian 4 (r.closedAt.getD 0) ++ bigEndian 6 r.delivered ++ bigEndian 8 r.produced ++
  bigEndian 8 r.mass ++ bigEndian 2 (r.efficiency.getD 0) ++ bigEndian 2 r.counted ++
  bigEndian 4 r.counters.breaks ++ bigEndian 4 r.counters.piecedA ++ bigEndian 4 r.counters.piecedB ++
  bigEndian 4 r.counters.failed ++ bigEndian 4 r.counters.doffs ++ bigEndian 4 r.counters.stopSeconds ++
  bigEndian 4 r.counters.exchanges ++ bigEndian 2 r.rogue ++ bigEndian 2 r.starved ++ bigEndian 2 r.offline ++
  bigEndian 2 r.slow

/-- The data bytes of a REPLY, where the spec gives their layout (R217); absent where it gives none (log 31). -/
def ReplyData.bytes : ReplyData → Option (List Byte)
  | .empty => some []
  | .spindles rs => some (byte rs.length :: rs.flatMap SpindleView.encode)
  | .shift i r => some (r.encode i)
  | .segment _ => none
  | .delivery _ => none
  | .list _ => none
  | .carriage _ => none
  | .doff _ => none
  | .lots _ => none
  | .roving _ => none
  | .poll _ _ => none
  | .stations _ => none
  | .recipe _ => none
  | .pass _ => none
  | .events _ => none
  | .profile _ _ _ => none
  | .status _ => none

/-- The clamped count that follows the answer code of CLAMPED (R214). -/
def Answer.extra : Answer → List Byte
  | .clamped n => [byte n]
  | .done => []
  | .busy => []
  | .state => []
  | .argument => []
  | .unknown => []
  | .notArmed => []
  | .mailboxFull => []
  | .denied => []

/-- The mill frame type and payload bytes of a frame this part originates (R214); absent where the spec gives no layout. -/
def Body.bytes : Body → Option (Nat × List Byte)
  | .reply code a d => d.bytes.map (fun bs => (2, [byte code, byte a.code] ++ a.extra ++ bs))
  | .notice c f n d t => some (3, [byte c, byte (flagBit f 0), byte n] ++ bigEndian 2 d ++ bigEndian 4 t)
  | .report a k t b => some (5, [byte a, byte k] ++ bigEndian 4 t ++ [byte b.length] ++ b)

/-- A frame this part originates as a mill frame, where the spec gives its bytes (R214). -/
def OwnFrame.raw (f : OwnFrame) : Option RawFrame :=
  f.body.bytes.map (fun b => { dest := f.dest, src := f.src, type := b.1, seq := f.seq, payload := b.2 })

end Sys2Proof.Machine
end

