-- ==== Sys2Proof/Machine/SpindleOps.lean ====
section
/-! DEFINITION. Changes of a spindle's record caused by a confirmed sense value or by the mill's service requests
(1.4, 1.5), with what they hand to the neighbours. -/

namespace Sys2Proof.Machine

/-- A record entering SPINNING (R15, R16): interval closed, break mark absent, attempts 0, slow by the value. -/
def spinUp (len shiftMark doffMark : Nat) (slow : Bool) (p : Spindle) : Spindle :=
  { closeInterval len shiftMark doffMark p with state := .spinning, attempts := 0, slow := slow, breakMark := none }

/-- Spindle `n` enters SPINNING (R15, R16). -/
def spindleSpins (n : Nat) (slow : Bool) (s : State) : State :=
  modSpindle n (spinUp s.dc.frameLength s.sa.mark s.df.mark slow) s

/-- One piecing is credited to the carriage of the spindle's side (R16). -/
def creditPiecing (side : Side) (s : State) : State :=
  let s := modCarriage side (fun c => { c with pieced := satAdd top32 c.pieced 1 }) s
  modCounters (fun c =>
    match side with
    | .A => { c with piecedA := satAdd top32 c.piecedA 1 }
    | .B => { c with piecedB := satAdd top32 c.piecedB 1 }) s

/-- A confirmed SPINNING or LAGGING (R9, R15, R16, R18). -/
def confirmSpinning (n : Nat) (slow : Bool) (s : State) : State :=
  match (s.spindle n).state with
  | .spinning => modSpindle n (fun p => { p with slow := slow }) s
  | .down => removeFromDispatch n (spindleSpins n slow s)
  | .starved => removeFromDispatch n (spindleSpins n slow s)
  | .rogue => removeFromDispatch n (spindleSpins n slow s)
  | .unseen => removeFromDispatch n (spindleSpins n slow s)
  | .servicing => removeFromDispatch n (creditPiecing (sideOf n) (spindleSpins n slow s))
  | .verifying => removeFromDispatch n (creditPiecing (sideOf n) (spindleSpins n slow s))
  | .offline => s
  | .vacant => s

/-- A spindle that has entered DOWN is handed for admission; selection follows its admission (R68, R77). -/
def admitAndSelect (n : Nat) (s : State) : State :=
  let s1 := handForAdmission n s
  if s1.listed n then selectFor (sideOf n) s1 else s1

/-- A break: a confirmed END_DOWN on a SPINNING spindle (R13). -/
def takeBreak (n : Nat) (s : State) : State :=
  let s := modSpindle n (fun p =>
    { p with state := .down, breakMark := some s.dc.frameLength, slow := false, breaks := satAdd 255 p.breaks 1 }) s
  let s := modCounters (fun c => { c with breaks := satAdd top32 c.breaks 1 }) s
  admitAndSelect n s

/-- A first END_DOWN of an UNSEEN or STARVED spindle: DOWN with its break mark kept (R14). -/
def takeEndDown (n : Nat) (s : State) : State :=
  let s := modSpindle n (fun p => { p with state := .down }) s
  admitAndSelect n s

/-- A confirmed END_DOWN (R13, R14, R18). -/
def confirmEndDown (n : Nat) (s : State) : State :=
  match (s.spindle n).state with
  | .spinning => takeBreak n s
  | .unseen => takeEndDown n s
  | .starved => takeEndDown n s
  | .down => s
  | .servicing => s
  | .verifying => s
  | .rogue => s
  | .offline => s
  | .vacant => s

/-- A record leaving its state for a down state, the break mark taken at the frame length where there is none (R5). -/
def goDown (x : SpindleState) (len : Nat) (p : Spindle) : Spindle :=
  { p with state := x, slow := false, breakMark := some (p.breakMark.getD len) }

/-- A confirmed NO_ROVING (R17, R18): STARVED, attempts kept; a piece under way is cancelled. -/
def confirmNoRoving (n : Nat) (s : State) : State :=
  let starve := modSpindle n (goDown .starved s.dc.frameLength)
  match (s.spindle n).state with
  | .spinning => removeFromDispatch n (starve s)
  | .down => removeFromDispatch n (starve s)
  | .unseen => removeFromDispatch n (starve s)
  | .verifying => removeFromDispatch n (starve s)
  | .servicing => afterRemoval (s.listed n) (sideOf n) (cancelPiece n (leaveDispatch n (starve s)))
  | .starved => s
  | .rogue => s
  | .offline => s
  | .vacant => s

/-- A confirmed sense change applied to the record, with its consequences (R11, R18's table). -/
def confirmChange (n : Nat) (v : Sense) (s : State) : State :=
  match v with
  | .spinning => confirmSpinning n false s
  | .lagging => confirmSpinning n true s
  | .endDown => confirmEndDown n s
  | .noRoving => confirmNoRoving n s

/-- One spindle goes OFFLINE, without the admission that follows (R19): its break mark is kept or taken, slow and attempts
cleared, its place in dispatch given up, and a piece under way cancelled. -/
def takeOffline (n : Nat) (s : State) : State :=
  let p := s.spindle n
  if p.state = .offline ∨ p.state = .vacant then s
  else
    let s1 := modSpindle n (fun q => { goDown .offline s.dc.frameLength q with attempts := 0 }) s
    let s2 := leaveDispatch n s1
    if p.state = .servicing then cancelPiece n s2 else s2

/-- One OFFLINE spindle returns to UNSEEN with latched value none and no candidate (R21, R36). -/
def bringIn (n : Nat) (s : State) : State :=
  if (s.spindle n).state = .offline then
    modCell n (fun _ => Cell.blank) (modSpindle n (fun p => { p with state := .unseen }) s)
  else s

/-- HOLD on one spindle, without the admission that follows (R72). -/
def holdSpindle (n : Nat) (s : State) : State :=
  let p := s.spindle n
  if p.held then s
  else
    let setHeld := modSpindle n (fun q => { q with held := true })
    match p.state with
    | .verifying => modEntry n (fun e => { e with holdPending := true }) s
    | .down => setListStatus n .unlisted (leaveDispatch n (setHeld s))
    | .servicing =>
      let s1 := modSpindle n (fun q => { q with state := .down }) (setHeld s)
      cancelPiece n (setListStatus n .unlisted (leaveDispatch n s1))
    | .spinning => setHeld s
    | .unseen => setHeld s
    | .starved => setHeld s
    | .rogue => setHeld s
    | .offline => setHeld s
    | .vacant => s

/-- RELEASE on one spindle, without the admission that follows: held and hold pending are cleared (R75). -/
def releaseSpindle (n : Nat) (s : State) : State :=
  modEntry n (fun e => { e with holdPending := false }) (modSpindle n (fun p => { p with held := false }) s)

/-- A fill on one position (R136); a VACANT spindle takes none. -/
def makeFill (mass : Option Nat) (n : Nat) (s : State) : State :=
  if (s.spindle n).state = .vacant then s
  else
    modSpindle n (fun p =>
      { p with fill := mass.map (fun m => { mark := s.dc.frameLength, mass := m }), lostFill := 0,
               lotReported := false }) s

/-- A change made to each of a list of spindles in turn. -/
def forEach (f : Nat → State → State) (ns : List Nat) (s : State) : State := ns.foldl (fun t n => f n t) s

/-- The mass a class gives a fill: absent for an invalid entry or a class code outside 0..15 (R138). -/
def State.lotMass (s : State) (c : Nat) : Option Nat :=
  match s.rm.lots[c]? with
  | some l => if l.valid then some l.mass else none
  | none => none

end Sys2Proof.Machine
end

