-- ==== Sys2Proof/Machine/IntakeOps.lean ====
section
/-! DEFINITION. Sense Intake's gate and comparison (chapter 2), and the taking of a drive report (3.3). -/

namespace Sys2Proof.Machine

/-! ### The gate (R28 to R30) -/

/-- The gate becomes OPEN: the settle timer stops and the verify windows start; the selection that follows is the
caller's (R29, R83). -/
def openGate (s : State) : State :=
  startWindows { s with si.gate := .opened, si.settle := s.si.settle.stop }

/-- The gate's opening with the selection that follows it (R29, R77). -/
def openGateSelect (s : State) : State := selectBoth (openGate s)

/-- The gate enters SETTLING; with settle at 0 it is OPEN at once (R28). -/
def startSettling (s : State) : State :=
  let s1 := { s with si.gate := .settling, si.settle := Timer.load (ms s.recipe.settle) }
  if s.recipe.settle = 0 then openGateSelect s1 else s1

/-- The gate becomes CLOSED from SETTLING or OPEN: the settle timer stops, every candidate is cleared, and on leaving OPEN
the verify windows stop (R30, R83). -/
def closeGate (s : State) : State :=
  match s.si.gate with
  | .closed => s
  | .settling =>
    { s with si.gate := .closed, si.settle := s.si.settle.stop,
             si.cells := s.si.cells.map (fun c => { c with candidate := none }) }
  | .opened =>
    stopWindows
      { s with si.gate := .closed, si.settle := s.si.settle.stop,
               si.cells := s.si.cells.map (fun c => { c with candidate := none }) }

/-- Sense Intake takes the drive state of a report (R28, R30): `fresh` when the report makes the state RUNNING from another,
is the first after a reset, or is the first after a refinding. -/
def intakeTakesReport (d : DriveState) (fresh : Bool) (s : State) : State :=
  if d = .running then
    if fresh ∧ s.si.gate = .closed then startSettling s else s
  else closeGate s

/-! ### Comparison (R33) -/

/-- The reading of a SAMPLE's four-bit code: UNREAD for 0 and for a code that is none of the values (R27, R216). -/
def readingOf : Nat → Option Sense
  | 1 => some .spinning
  | 2 => some .endDown
  | 3 => some .lagging
  | 4 => some .noRoving
  | _ => none

/-- The outcome of comparing one reading with one cell (R33). -/
structure Compared where
  cell : Cell
  confirmed : Option Sense
  unread : Nat
  flicker : Nat
  deriving DecidableEq, Repr

/-- The comparison of one reading with one cell (R33, R34, R36). -/
def compareCell (c : Cell) (v : Option Sense) : Compared :=
  match v with
  | none => { cell := c, confirmed := none, unread := 1, flicker := 0 }
  | some x =>
    if c.latched = some x then
      { cell := { c with candidate := none }, confirmed := none, unread := 0,
        flicker := if c.candidate.isSome then 1 else 0 }
    else if c.candidate = some x then
      { cell := { latched := some x, candidate := none }, confirmed := some x, unread := 0, flicker := 0 }
    else
      { cell := { c with candidate := some x }, confirmed := none, unread := 0, flicker := 0 }

/-- One reading compared for spindle `n` of segment `k`, Sense Intake's state only (R33). -/
def compareReading (k n : Nat) (v : Option Sense) (s : State) : State :=
  let r := compareCell (s.cell n) v
  modCounts k (fun c => { c with unread := satAdd top32 c.unread r.unread, flicker := satAdd top32 c.flicker r.flicker })
    (modCell n (fun _ => r.cell) s)

/-- The confirmed changes of a SAMPLE against the cells as they stand, in ascending spindle number (R33, R37). -/
def confirmedChanges (s : State) (readings : List (Nat × Option Sense)) : List (Nat × Sense) :=
  readings.filterMap (fun r => (compareCell (s.cell r.1) r.2).confirmed.map (fun v => (r.1, v)))

/-- The candidates of a segment's 24 spindles are cleared (R32, R40). -/
def clearCandidates (k : Nat) : State → State :=
  forEach (fun n => modCell n (fun c => { c with candidate := none })) (segmentSpindles k)

/-- A SAMPLE of 24 readings from segment `k` (R32, R33, R37): all are compared before any change is handed over, and each
change is applied whole before the next. -/
def takeSample (k : Nat) (values : List (Option Sense)) (s : State) : State :=
  let heard := modCounts k (fun c => { c with lastHeard := some s.dc.runClock })
  if s.si.gate = .opened then
    let readings := (segmentSpindles k).zip values
    let s1 := heard (modCounts k (fun c => { c with samples := satAdd top32 c.samples 1 }) s)
    let s2 := readings.foldl (fun t r => compareReading k r.1 r.2 t) s1
    (confirmedChanges s readings).foldl (fun t r => confirmChange r.1 r.2 t) s2
  else clearCandidates k (heard s)

/-- The 24 readings of a SAMPLE body: a position it does not reach is UNREAD, and bytes past the twelfth are ignored
(R27, R216). -/
def sampleReadings (body : List Byte) : List (Option Sense) :=
  (List.range 12).flatMap (fun j =>
    match body[j]? with
    | some b => [readingOf (b.toNat / 16), readingOf (b.toNat % 16)]
    | none => [none, none])

/-! ### Drive reports (R47 to R52) -/

/-- The drive state of a report's code; any other code is FAULT (R51, R216). -/
def driveStateOf : Nat → DriveState
  | 1 => .running
  | 2 => .stopping
  | 3 => .stopped
  | _ => .fault

/-- Step 1 of a drive report: the pulse count is applied (R48 to R50). -/
def applyPulses (p : Nat) (s : State) : State :=
  let raw := pulseDelta s.dc.baseline p
  let r := advanceLength s.dc.frameLength s.dc.rem s.ps.inForce.pulseLength (min raw s.recipe.pulseLimit)
  let s1 := { s with dc.frameLength := r.1, dc.rem := r.2, dc.baseline := some p }
  if s.recipe.pulseLimit < raw then raiseEvent .driveJump raw s1 else s1

/-- Step 2 of a drive report: the state is recorded and handed to the Doff Controller, then to Sense Intake, and the
first-report mark to the Roving Monitor (R51, R146; log 15). -/
def applyDriveState (d : DriveState) (s : State) : State :=
  let changed := !(s.dc.drive == some d)
  let first := !s.dc.firstTaken
  let refound := s.dc.refound
  let s1 := { s with dc.drive := some d, dc.firstTaken := true, dc.refound := false }
  let s2 := intakeTakesReport d (changed || first || refound) (doffTakesReport d changed refound s1)
  if first then passDue .full s2 else s2

/-- A drive report, taken whole (R47). -/
def takePulse (p : Nat) (d : DriveState) (s : State) : State := applyDriveState d (applyPulses p s)

/-- The loss of the drive station (R52): the Doff Controller and Sense Intake are told. -/
def loseDrive (s : State) : State := closeGate (doffLosesDrive s)

end Sys2Proof.Machine
end

