-- ==== Sys2Proof/Machine/RovingOps.lean ====
section
/-! DEFINITION. Fills by exchange, forecast passes and the roving request queue (chapter 7). -/

namespace Sys2Proof.Machine

/-- The recorded forecast of a segment (log 25 outside 1..80). -/
def State.forecast (s : State) (k : Nat) : Option Nat := if k = 0 then none else s.rm.forecasts.getD (k - 1) none

/-- The state with a segment's recorded forecast replaced. -/
def setForecast (k : Nat) (x : Option Nat) (s : State) : State :=
  if k = 0 then s else { s with rm.forecasts := s.rm.forecasts.set (k - 1) x }

/-- A spindle's forecast, absent with its fill (R61). -/
def spindleForecast (s : State) (p : Spindle) : Option Nat :=
  (remaining s.recipe p s.dc.frameLength).map (forecastMinutes s.recipe)

/-- Whether a spindle's forecast enters its segment's: SPINNING, DOWN, SERVICING, VERIFYING or UNSEEN (R145). -/
def entersForecast (x : SpindleState) : Bool :=
  x == .spinning || x == .down || x == .servicing || x == .verifying || x == .unseen

/-- The lesser of two forecasts, an absent one giving way. -/
def lesser (a b : Option Nat) : Option Nat :=
  match a, b with
  | some x, some y => some (min x y)
  | some x, none => some x
  | none, y => y

/-- A segment's forecast from its records and the recipe (R145). -/
def segmentForecast (s : State) (k : Nat) : Option Nat :=
  let ps := (segmentSpindles k).map s.spindle
  if ps.any (fun p => p.state == .starved) then some 0
  else (ps.filter (fun p => entersForecast p.state)).foldl (fun m p => lesser m (spindleForecast s p)) none

/-- The run-out check of one spindle (R148). -/
def checkRunOut (n : Nat) (s : State) : State :=
  let p := s.spindle n
  if p.state = .spinning ∧ remaining s.recipe p s.dc.frameLength = some 0 ∧ p.lotReported = false then
    modSpindle n (fun q => { q with lotReported := true }) (raiseEvent .lotFault n s)
  else s

/-- Whether segment `j` with forecast `f` stands after a segment `k` with forecast `x` in the queue's order (R149, R150). -/
def standsAfter (s : State) (x k j : Nat) : Bool :=
  match s.forecast j with
  | some f => x < f || (x == f && k < j)
  | none => false

/-- A segment is inserted before the first member that stands after it (R149). -/
def insertQueue (s : State) (x k : Nat) : List Nat → List Nat
  | [] => [k]
  | j :: rest => if standsAfter s x k j then k :: j :: rest else j :: insertQueue s x k rest

/-- The segment is placed in, re-placed in or removed from the queue after its recomputation, and ROVING_CALL is raised when
it newly enters (R149, R151). A segment pass taken before the first full pass after a reset places its segment too, though R156
says of the queue that it is empty until then (DEDUCED, log 44). -/
def placeInQueue (k : Nat) (s : State) : State :=
  let rest := s.rm.queue.filter (fun j => !(j == k))
  match s.forecast k with
  | some x =>
    if x ≤ s.recipe.leadTime then
      let s1 := { s with rm.queue := insertQueue s x k rest }
      if s.rm.queue.contains k then s1 else raiseEvent .rovingCall k s1
    else { s with rm.queue := rest }
  | none => { s with rm.queue := rest }

/-- One segment's work in a pass: run-out checks, recomputation, queue (R147). -/
def passSegment (k : Nat) (s : State) : State :=
  let s1 := forEach checkRunOut (segmentSpindles k) s
  placeInQueue k (setForecast k (segmentForecast s1 k) s1)

/-- A full pass: every fitted segment in ascending number, last full pass and the period counter set (R146, R147). -/
def doFullPass (s : State) : State :=
  let s1 := forEach passSegment (fittedSegments s.ps.inForce.segmentsA s.ps.inForce.segmentsB) s
  { s1 with rm.lastFullPass := some s.dc.runClock, rm.period := 0, rm.periodRunning := true }

/-- A pass's work (R147). -/
def runPass : Pass → State → State
  | .full => doFullPass
  | .segment k => passSegment k

/-- The pass at the head of those fallen due, if it is the one named, is taken (R146). -/
def takeDue (p : Pass) (s : State) : State :=
  match s.rm.due with
  | q :: rest => if q = p then runPass p { s with rm.due := rest, rm.asked := s.rm.asked - 1 } else s
  | [] => s

/-- The pass that fell due first is taken. -/
def takeNextPass (s : State) : State :=
  match s.rm.due with
  | p :: _ => takeDue p s
  | [] => s

/-- The first `n` passes that have fallen due are taken in order, while the own queue has room for the answer that waits for them. -/
def takePasses : Nat → State → State
  | 0, s => s
  | n + 1, s => if s.ownHasRoom then takePasses n (takeNextPass s) else s

/-- A FORECAST_NOW's full pass falls due, and a READ_ROVING sent from now on waits for it (R152). -/
def askForecast (s : State) : State :=
  let t := passDue .full s
  { t with rm.asked := t.rm.due.length }

/-- The positions an EXCHANGE names: bit 7 of the first byte is position 1 (R141, R216). -/
def exchangedPositions (set : List Byte) : List Nat :=
  (List.range 24).filterMap (fun i =>
    match set[i / 8]? with
    | some b => if b.toNat.testBit (7 - i % 8) then some (i + 1) else none
    | none => none)

/-- An EXCHANGE from segment `k` (R141, R142): the fills, LOT_FAULT for an invalid class, the exchange counted, and a segment
pass fallen due; nothing when it names no position. -/
def takeExchange (k cls : Nat) (positions : List Nat) (s : State) : State :=
  if positions.isEmpty then s
  else
    let mass := s.lotMass cls
    let s1 := forEach (makeFill mass) (positions.map (fun i => 24 * (k - 1) + i)) s
    let s2 := if mass.isNone then raiseEvent .lotFault k s1 else s1
    passDue (.segment k) (modCounters (fun c => { c with exchanges := satAdd top32 c.exchanges 1 }) s2)

end Sys2Proof.Machine
end

