-- ==== Sys2Proof/Machine/LineOps.lean ====
section
/-! DEFINITION. The frame line: POLLs, and a station's message taken whole (chapter 9). -/

namespace Sys2Proof.Machine

/-! ### Error counts, losses and findings (R175, R176, R182) -/

/-- A station entry's error count is raised by 1; LINE_ERRORS at 64 (R176). -/
def raiseErrors (a : Nat) (s : State) : State :=
  let n := (s.station a).errors
  let s1 := modStation a (fun e => { e with errors := satAdd top16 e.errors 1 }) s
  if n = 63 then raiseEvent .lineErrors a s1 else s1

/-- The owning block is told of a station's loss (R182). -/
def tellLoss (a : Nat) (s : State) : State :=
  match kindAt a with
  | some .segment => clearCandidates a s
  | some .drive => loseDrive s
  | some .carriage => carriageGoesOut (sideAt a) false s
  | some .doffer => doffLosesDoffer s
  | some .controller => s
  | none => s

/-- The owning block is told of a station's finding (R182): the drive's is remembered for its next report (R52, log 20). -/
def tellFinding (a : Nat) (s : State) : State :=
  match kindAt a with
  | some .segment => s
  | some .drive => { s with dc.refound := true }
  | some .carriage => carriageFound (sideAt a) s
  | some .doffer => s
  | some .controller => s
  | none => s

/-- A failed visit raises silence; the third in a row loses a found station (R175, R182). -/
def failVisit (a : Nat) (s : State) : State :=
  let e := s.station a
  let s1 := modStation a (fun x => { x with silence := min 3 (x.silence + 1) }) s
  if e.found ∧ 3 ≤ e.silence + 1 then
    tellLoss a (raiseEvent .stationLost a (modStation a (fun x => { x with found := false, lastReport := none }) s1))
  else s1

/-- A good message makes its station heard, and found if it was lost (R175). -/
def hearStation (a : Nat) (s : State) : State :=
  let wasLost := !(s.station a).found
  let s1 := modStation a (fun x => { x with found := true, silence := 0, lastHeard := some s.dc.runClock }) s
  if wasLost then tellFinding a s1 else s1

/-! ### Acknowledgements (R173) -/

/-- An own acknowledgement is handed to the owning block (R93, R113, R114). -/
def ownAck (a number : Nat) (s : State) : State :=
  match kindAt a with
  | some .drive => if s.df.driveSlot.any (fun o => o.number == number) then { s with df.driveSlot := none } else s
  | some .doffer => if s.df.dofferSlot.any (fun o => o.number == number) then { s with df.dofferSlot := none } else s
  | some .carriage => collectOrder (sideAt a) number s
  | some .segment => s
  | some .controller => s
  | none => s

/-- A mill acknowledgement equal to the mailbox number empties the mailbox (R187). -/
def millAck (a number : Nat) : State → State :=
  modStation a (fun x => if x.mailbox.any (fun o => o.number == number) then { x with mailbox := none } else x)

/-- The acknowledgement of a station message, if it carries one (R173, R215). -/
def takeAck (a : Nat) (m : LineMessage) (s : State) : State :=
  if m.present then (if m.mill then millAck a m.orderNumber s else ownAck a m.orderNumber s) else s

/-! ### Reports (R172, R181, R216) -/

/-- Whether the station at `a` sends reports of kind `k` (R172): SERVICE and STATUS_REPLY come from any station. -/
def sendsKind (a k : Nat) : Bool :=
  k == 0x18 || k == 0x04 ||
  match kindAt a with
  | some .segment => k == 0x08 || k == 0x09
  | some .drive => k == 0x0A
  | some .carriage => k == 0x0B || k == 0x0C
  | some .doffer => k == 0x0D || k == 0x0E
  | some .controller => false
  | none => false

/-- The number in bytes `i` to `i + n - 1` of a body. -/
def bodyField (body : List Byte) (i n : Nat) : Nat := fromBytes ((body.drop i).take n)

/-- A report handed to its block (R181); a body shorter than its kind requires is handed to none, but for SAMPLE
(R216). -/
def handReport (a : Nat) (r : Report) (s : State) : State :=
  let b := r.body
  if !sendsKind a r.kind then s
  else if r.kind = 0x08 then takeSample a (sampleReadings b) s
  else if r.kind = 0x09 then
    if b.length < 4 then s else takeExchange a (bodyField b 0 1) (exchangedPositions ((b.drop 1).take 3)) s
  else if r.kind = 0x0A then
    if b.length < 3 then s else takePulse (bodyField b 0 2) (driveStateOf (bodyField b 2 1)) s
  else if r.kind = 0x0B then
    if b.length < 4 then s else takeOutcome (sideAt a) (bodyField b 0 1) (bodyField b 1 1) (bodyField b 2 2) s
  else if r.kind = 0x0C then
    if b.length < 3 then s
    else takePlace (sideAt a) (bodyField b 0 2) (if bodyField b 2 1 = 1 then .down else .up) s
  else if r.kind = 0x0D then
    if b.length < 1 then s else takeDoffStep (bodyField b 0 1) s
  else if r.kind = 0x0E then
    if b.length < 1 then s else takeDoffEnd (bodyField b 0 1 == 0) s
  else s

/-- The order in which a message's reports are handed over: a segment's SAMPLEs first (R39, R181). -/
def handingOrder (rs : List Report) : List Report :=
  rs.filter (fun r => r.kind == 0x08) ++ rs.filter (fun r => !(r.kind == 0x08))

/-- A copy of a report goes to the mill when the pass table marks its kind; a full own queue drops it (R200). -/
def forwardReport (a : Nat) (r : Report) (s : State) : State :=
  if sendsKind a r.kind && (s.ml.passTable.getD r.kind closedEntry).up then
    if s.ownHasRoom then originate (.report a r.kind s.dc.runClock r.body) s
    else modPortCounts (fun c => { c with reportsDropped := satAdd top16 c.reportsDropped 1 }) s
  else s

/-- The acknowledgement of a message, `finding` saying that the message found a lost station: a carriage's own acknowledgement then
finds an empty slot and changes nothing, since a PIECE placed at the finding is no order the station can have taken up (R105). -/
def takeAckAt (finding : Bool) (a : Nat) (m : LineMessage) (s : State) : State :=
  if finding && kindAt a == some .carriage && !m.mill then s else takeAck a m s

/-- A report handed to its block; an OUTCOME in the message that found a carriage is stale (R105). -/
def handReportAt (finding : Bool) (a : Nat) (r : Report) (s : State) : State :=
  if finding && kindAt a == some .carriage && r.kind == 0x0B && 4 ≤ r.body.length then staleOutcome (sideAt a) s
  else handReport a r s

/-- A good message of the station at `a`, taken whole (R181): status, acknowledgement, repeat test, reports, copies. -/
def takeMessage (a : Nat) (m : LineMessage) (s : State) : State :=
  let finding := !s.found a
  let s1 := takeAckAt finding a m (hearStation a s)
  if (s1.station a).lastReport = some m.reportNumber then s1
  else
    let s2 := modStation a (fun x => { x with lastReport := some m.reportNumber }) s1
    let s3 := (handingOrder m.reports).foldl (fun t r => handReportAt finding a r t) s2
    m.reports.foldl (fun t r => forwardReport a r t) s3

/-! ### What the part sends (R180, R183, R185, R215) -/

/-- The order a POLL of station `a` carries: its kind, number, whether it is a mill order, and its body; the owning block's
uncollected order goes ahead of the mailbox (R180). -/
def State.orderFor (s : State) (a : Nat) : Option (Nat × Nat × Bool × List Byte) :=
  let own : Option (Nat × Nat × Bool × List Byte) :=
    match kindAt a with
    | some .drive => s.df.driveSlot.map (fun o => (o.order.line.1, o.number, false, o.order.line.2))
    | some .doffer => s.df.dofferSlot.map (fun o => (o.order.line.1, o.number, false, o.order.line.2))
    | some .carriage =>
      match (s.carriage (sideAt a)).slot with
      | some o => if o.collected then none else some (o.kind.line.1, o.number, false, o.kind.line.2)
      | none => none
    | some .segment => none
    | some .controller => none
    | none => none
  match own with
  | some x => some x
  | none => (s.station a).mailbox.map (fun o => (o.kind, o.number, true, o.payload))

/-- The POLL of a visit to station `a` (R173, R180, R215). The source bit of a POLL that carries no order, to which R215 gives no
value, is 0 (log 41). -/
def State.pollMessage (s : State) (a : Nat) : LineMessage :=
  let r := (s.station a).lastReport
  match s.orderFor a with
  | some (k, n, mill, body) =>
    { dest := a, src := 0, kind := 1, orderKind := k, orderNumber := n, reportNumber := r.getD 0, mill := mill,
      present := r.isSome, payload := body }
  | none =>
    { dest := a, src := 0, kind := 1, orderKind := 0, orderNumber := 0, reportNumber := r.getD 0, mill := false,
      present := r.isSome, payload := [] }

/-- The TAKEN to station `a` (R183, R215). -/
def State.takenMessage (s : State) (a : Nat) : LineMessage :=
  let r := (s.station a).lastReport
  { dest := a, src := 0, kind := 2, orderKind := 0, orderNumber := 0, reportNumber := r.getD 0, mill := false,
    present := r.isSome, payload := [] }

/-- The HALT broadcast (R185, R215). Its report number byte, to which R215 gives no value in a HALT, is 0 (log 41). -/
def haltMessage : LineMessage :=
  { dest := 127, src := 0, kind := 3, orderKind := 0, orderNumber := 0, reportNumber := 0, mill := false,
    present := false, payload := [] }

/-- The part puts a message on the line. -/
def sendLine (m : LineMessage) (s : State) : State := { s with lc.lineOut := some m }

/-- The default poll schedule of a list of segments, `c` segments since the last group: a group of drive, carriages and
doffer after every eighth segment and after the last (R177). -/
def scheduleOf : List Nat → Nat → List Nat
  | [], c => if c = 0 then [] else [96, 97, 98, 99]
  | k :: ks, c => if c = 7 then k :: 96 :: 97 :: 98 :: 99 :: scheduleOf ks 0 else k :: scheduleOf ks (c + 1)

/-- The default poll schedule of a geometry (R177). -/
def defaultSchedule (a b : Nat) : List Nat := scheduleOf (fittedSegments a b) 0

end Sys2Proof.Machine
end

