-- ==== Sys2Proof/Machine/ClockEvents.lean ====
section
/-! DEFINITION. The part's own clock, timers and passes. An event whose condition does not hold has not happened and changes
nothing (log 7); the end of a running timer is taken whatever time the model holds as left on it (log 8), but for one that an event taken first has
overtaken (log 40). -/

namespace Sys2Proof.Machine

/-- The run clock advances by a second, and with it the period counter (R46, R135). -/
def tickSecond (s : State) : State :=
  { s with
    overtaken := Overtaken.none
    dc.runClock := satAdd top32 s.dc.runClock 1
    rm.period := if s.rm.periodRunning then satAdd 3600 s.rm.period 1 else s.rm.period }

/-- RUN_CLOCK_TICK (R46). -/
def execRunClockTick (s : State) : Out := onSupply tickSecond s

/-- A WAITING entry of the side has waited its age: selection runs for its carriage (R77, R78). -/
def reachAge (side : Side) (s : State) : State := if (s.list side).any s.aged then selectFor side s else s

/-- AGE_LIMIT_REACHED (R78). -/
def execAgeLimitReached (side : Side) (s : State) : Out := onSupply (reachAge side) s

/-- The period counter has reached forecast_period times 60: a full pass falls due (R146). -/
def reachPeriod (s : State) : State :=
  if s.rm.periodRunning ∧ s.recipe.forecastPeriod * 60 ≤ s.rm.period then passDue .full s else s

/-- FORECAST_PERIOD_EXPIRY (R146). -/
def execForecastPeriodExpiry (s : State) : Out := onSupply reachPeriod s

/-- FULL_PASS (R147), taken when it is the pass that fell due first (R146). -/
def execFullPass (s : State) : Out := onSupply (takeDue .full) s

/-- SEGMENT_PASS (R147), taken when it is the pass that fell due first (R146). -/
def execSegmentPass (k : Nat) (s : State) : Out := onSupply (takeDue (.segment k)) s

/-- The settle timer runs out in SETTLING (R29). -/
def settleExpires (s : State) : State :=
  if s.si.gate = .settling then openGateSelect { s with si.settle := Timer.expired } else s

/-- SETTLE_TIMER_EXPIRY (R29). -/
def execSettleTimerExpiry (s : State) : Out := onSupply settleExpires s

/-- Whether spindle `n`'s verify window runs (R83). -/
def State.windowRuns (s : State) (n : Nat) : Bool :=
  (s.entry? n).any (fun e => e.status == .verifying && e.window.any (fun w => w.running))

/-- A running verify window runs out: a failed attempt, then selection for the side's carriage (R77, R85). -/
def windowExpires (n : Nat) (s : State) : State :=
  if s.windowRuns n then selectFor (sideOf n) (failedAttempt n s) else s

/-- VERIFY_WINDOW_EXPIRY (R85). -/
def execVerifyWindowExpiry (n : Nat) (s : State) : Out := onSupply (windowExpires n) s

/-- A running order timer runs out: the carriage goes OUT (R100). An expiry that an outcome has overtaken comes to nothing (R109,
log 40). -/
def orderExpires (side : Side) (s : State) : State :=
  if s.overtaken.orders.get side then { s with overtaken.orders := s.overtaken.orders.set side false }
  else if (s.carriage side).timer.running then
    carriageGoesOut side true (modCarriage side (fun c => { c with timer := Timer.expired }) s)
  else s

/-- ORDER_TIMER_EXPIRY (R100). -/
def execOrderTimerExpiry (side : Side) (s : State) : Out := onSupply (orderExpires side) s

/-- A carriage neither PARKED nor OUT goes OUT at the park limit (R119). -/
def failPark (side : Side) (s : State) : State := if (s.carriage side).away then s else carriageGoesOut side true s

/-- The park timer runs out in DUE (R119): entry into STOPPING follows when the last carriage has gone OUT. Carriage A goes OUT
before carriage B, an order the spec leaves open (log 35). -/
def parkExpires (s : State) : State :=
  if s.df.state = .due ∧ s.df.parkTimer.running then
    parkWait (failPark .B (failPark .A { s with df.parkTimer := Timer.expired }))
  else s

/-- PARK_TIMER_EXPIRY (R119). -/
def execParkTimerExpiry (s : State) : Out := onSupply parkExpires s

/-- The doff timer runs out, by the doff state (R121, R122, R124, R129). An expiry that a report has overtaken comes to nothing
(R133, log 40). -/
def doffExpires (s : State) : State :=
  if s.overtaken.doff then { s with overtaken.doff := false }
  else if s.df.doffTimer.mode = .running then
    let s := { s with df.doffTimer := { left := 0, mode := .stopped } }
    match s.df.state with
    | .stopping => enterFaulted 1 s
    | .doffing => enterFaulted 6 s
    | .restarting => enterHalted 5 s
    | .looking => s
    | .spinning => s
    | .halted => s
    | .due => s
    | .suspended => s
    | .faulted => s
    | .blocked => s
  else s

/-- DOFF_TIMER_EXPIRY (R124, R129). -/
def execDoffTimerExpiry (s : State) : Out := onSupply doffExpires s

/-- The store in progress ends (R208). -/
def storeEnds (s : State) : State :=
  if s.ps.busy then
    raiseEvent .storeDone 0
      { s with ps.stored := s.ps.pendingCopy, ps.checkPasses := true, ps.source := .stored, ps.busy := false }
  else s

/-- STORE_COMPLETE (R208). -/
def execStoreComplete (s : State) : Out := onSupply storeEnds s

/-- One millisecond of every running millisecond timer (log 9): the settle timer, the verify windows, the order timers, the
park timer and the doff timer (R46). -/
def tickMillisecond (s : State) : State :=
  let s := modAllEntries (fun e => { e with window := e.window.map Timer.tick }) s
  { s with
    si.settle := s.si.settle.tick
    pd.carriages := { a := { s.pd.carriages.a with timer := s.pd.carriages.a.timer.tick },
                      b := { s.pd.carriages.b with timer := s.pd.carriages.b.timer.tick } }
    overtaken := Overtaken.none
    df.doffTimer := s.df.doffTimer.tick
    df.parkTimer := s.df.parkTimer.tick }

end Sys2Proof.Machine
end

