-- ==== Sys2Proof/WellFormed.lean ====
section
/-! DEFINITION. What a command must satisfy to be one that can reach the part at all: the field widths of chapter 11.
Values that fit their fields and that the spec refuses by an answer (ARGUMENT, CLAMPED) are well formed: their meaning
answers them. -/

namespace Sys2Proof

/-- A header field of one byte (R214). -/
def isByte (n : Nat) : Bool := n < 256

/-- A header field of two bytes (R214). -/
def isWord (n : Nat) : Bool := n < 65536

/-- A good mill frame: every header field fits, and the payload is at most 1,024 bytes (R193, R214). -/
def RawFrame.wf (f : RawFrame) : Bool :=
  isByte f.dest && isByte f.src && isByte f.type && isWord f.seq && f.payload.length ≤ 1024

/-- The frame of a request or a station order (R193, R214). -/
def ReqFrame.wf (h : ReqFrame) : Bool :=
  isByte h.dest && isByte h.src && isWord h.seq && h.raw.length ≤ 1024

/-- The frame of the request with code `c`: the code is the first byte of the payload (R196, R214). -/
def ReqFrame.carries (h : ReqFrame) (c : Nat) : Bool := h.wf && h.raw.head? == some (BitVec.ofNat 8 c)

/-- The request codes of the manual (R197 speaks of "no request of this manual"). -/
def requestCodes : List Nat :=
  [0x01, 0x02, 0x03, 0x04, 0x05, 0x06, 0x07, 0x08, 0x09, 0x0A, 0x0B, 0x0E, 0x0F, 0x10, 0x11, 0x12, 0x18, 0x1C] ++
  [0x20, 0x21, 0x22, 0x23, 0x24, 0x25, 0x28, 0x29, 0x2A, 0x30, 0x31, 0x32, 0x33, 0x34, 0x35, 0x36, 0x37, 0x38, 0x39] ++
  [0x40, 0x41, 0x42, 0x43, 0x44, 0x48, 0x49, 0x50, 0x51, 0x52, 0x53]

/-- Well-formedness of a command. A REQUEST without its code byte is given as an UNKNOWN_REQUEST with code 0 (log 12). -/
def Instr.wf : Instr → Bool
  | .powerOn => true
  | .pinReset => true
  | .runClockTick => true
  | .ageLimitReached _ => true
  | .forecastPeriodExpiry => true
  | .fullPass => true
  | .segmentPass k => 1 ≤ k && k ≤ 80
  | .settleTimerExpiry => true
  | .verifyWindowExpiry n => 1 ≤ n && n ≤ 1920
  | .orderTimerExpiry _ => true
  | .parkTimerExpiry => true
  | .doffTimerExpiry => true
  | .storeComplete => true
  | .poll => true
  | .replyWindowExpiry => true
  | .reply _ => true
  | .stationMessage _ => true
  | .halt => true
  | .upTransmitBegin => true
  | .upTransmitEnd => true
  | .downTransmitBegin => true
  | .downTransmitEnd => true
  | .downConnected => true
  | .downDisconnected => true
  | .badFrame _ _ => true
  | .throughDownFrame f => f.wf
  | .throughUpFrame f => f.wf
  | .misdirectedFrame f => f.wf && !(f.type == 1) && !(f.type == 4)
  | .unknownRequest h c =>
    isByte c && !requestCodes.contains c && (h.carries c || (h.wf && h.raw.isEmpty && c == 0))
  | .stationOrder h => h.wf
  | .status h _ => h.carries 0x01
  | .loadRecipe h _ => h.carries 0x02
  | .readRecipe h => h.carries 0x03
  | .loadPass h _ => h.carries 0x04
  | .readPass h => h.carries 0x05
  | .setMask h ms => h.carries 0x06 && (h.short || ms.length == 16)
  | .readEvents h => h.carries 0x07
  | .clearEvents h cs => h.carries 0x08 && cs.all (· < 16)
  | .profileWrite h _ => h.carries 0x09
  | .profileStore h => h.carries 0x0A
  | .readProfile h => h.carries 0x0B
  | .resetArm h => h.carries 0x0E
  | .reset h => h.carries 0x0F
  | .readSpindles h _ _ => h.carries 0x10
  | .serviceOut h _ => h.carries 0x11
  | .serviceOutSegment h _ => h.carries 0x11
  | .serviceIn h _ => h.carries 0x12
  | .readSegment h _ => h.carries 0x18
  | .readDelivery h => h.carries 0x1C
  | .hold h _ => h.carries 0x20
  | .holdSegment h _ => h.carries 0x20
  | .release h _ => h.carries 0x21
  | .holdAll h => h.carries 0x22
  | .releaseAll h => h.carries 0x23
  | .rogueRelease h _ => h.carries 0x24
  | .readList h _ => h.carries 0x25
  | .carriageOut h _ => h.carries 0x28
  | .carriageRestore h _ => h.carries 0x29
  | .readCarriage h _ => h.carries 0x2A
  | .doffNow h => h.carries 0x30
  | .doffInhibit h => h.carries 0x31
  | .doffPermit h => h.carries 0x32
  | .doffSuspend h => h.carries 0x33
  | .doffResume h => h.carries 0x34
  | .doffRetry h => h.carries 0x35
  | .doffConfirm h => h.carries 0x36
  | .frameHalt h => h.carries 0x37
  | .frameRun h => h.carries 0x38
  | .readDoff h => h.carries 0x39
  | .loadLots h _ => h.carries 0x40
  | .readLots h => h.carries 0x41
  | .rovingSet h _ _ => h.carries 0x42
  | .readRoving h => h.carries 0x43
  | .forecastNow h => h.carries 0x44
  | .shiftClose h n => h.carries 0x48 && isWord n
  | .readShift h _ => h.carries 0x49
  | .loadPoll h _ => h.carries 0x50
  | .readPoll h => h.carries 0x51
  | .readStations h _ => h.carries 0x52
  | .mailboxClear h _ => h.carries 0x53
  | .upLinkLost => true
  | .upLinkRestored => true
  | .powerLoss => true

end Sys2Proof
end

