-- ==== Sys2Proof/Machine/LinkOps.lean ====
section
/-! DEFINITION. The mill link: routing of frames, the UP arbiter, and how a request is taken and answered (10.1, 10.2). -/

namespace Sys2Proof.Machine

/-! ### Routing (R194) -/

/-- A frame for the through-down queue: discarded and counted when the queue is full or nothing is connected at DOWN
(R194). -/
def joinThroughDown (f : RawFrame) (s : State) : State :=
  if s.ml.downConnected ∧ s.ml.throughDown.length < 8 then { s with ml.throughDown := s.ml.throughDown ++ [f] }
  else modPortCounts (fun c => { c with throughDownDiscarded := satAdd top16 c.throughDownDiscarded 1 }) s

/-- A frame for the through-up queue: discarded and counted when the queue is full (R194). -/
def joinThroughUp (f : RawFrame) (s : State) : State :=
  if s.ml.throughUp.length < 8 then { s with ml.throughUp := s.ml.throughUp ++ [f] }
  else modPortCounts (fun c => { c with throughUpDiscarded := satAdd top16 c.throughUpDiscarded 1 }) s

/-- A good frame that arrived on UP, handled here by `handle` when it is for this part or a broadcast (R194). A broadcast's copy
goes on before it is handled here, an order the spec leaves open (log 37). -/
def routeUp (f : RawFrame) (handle : State → State) (s : State) : State :=
  if f.dest = s.frameNumber then handle s
  else if f.dest = 255 then handle (joinThroughDown f s)
  else joinThroughDown f s

/-! ### Requests (R196, R197) -/

/-- How a request is answered and what it does once its reply is queued. -/
structure Verdict where
  answer : Answer
  data : ReplyData
  effect : State → State

/-- A refusal with an answer: nothing changes (R197). -/
def refuse (a : Answer) : Verdict := { answer := a, data := .empty, effect := id }

/-- A read: DONE with data, nothing changes. -/
def answerWith (d : ReplyData) : Verdict := { answer := .done, data := d, effect := id }

/-- A request that is taken with the answer DONE and no data. -/
def perform (f : State → State) : Verdict := { answer := .done, data := .empty, effect := f }

/-- The answer of a request that clamps values (R139, R201, R207). -/
def clampAnswer (n : Nat) : Answer := if n = 0 then .done else .clamped n

/-- A request or station order taken here (R196): discarded when the own queue is full; otherwise reset arm is cleared, one
REPLY is queued unless it came by broadcast, and then it has its effect. The verdict is given on the state as it stands. -/
def takeRequest (h : ReqFrame) (code : Nat) (judge : State → Verdict) (s : State) : State :=
  if s.ownHasRoom then
    let v := judge s
    let s1 := { s with ml.resetArm := false }
    let s2 :=
      if h.dest = 255 then s1
      else queueOwn { dest := h.src, src := s.frameNumber, seq := h.seq, body := .reply code v.answer v.data } s1
    v.effect s2
  else modPortCounts (fun c => { c with requestsDiscarded := satAdd top16 c.requestsDiscarded 1 }) s

/-- The frame of a request as it is passed on: type 1 REQUEST (R214). -/
def requestFrame (h : ReqFrame) : RawFrame := { dest := h.dest, src := h.src, type := 1, seq := h.seq, payload := h.raw }

/-- The frame of a station order as it is passed on: type 4 (R214). -/
def orderFrame (h : ReqFrame) : RawFrame := { dest := h.dest, src := h.src, type := 4, seq := h.seq, payload := h.raw }

/-- A REQUEST without required arguments, routed and taken (R194, R196). -/
def plainRequest (h : ReqFrame) (code : Nat) (judge : State → Verdict) : State → State :=
  routeUp (requestFrame h) (takeRequest h code judge)

/-- A REQUEST with required arguments: refused with ARGUMENT when its payload is too short to hold them (R197). -/
def argRequest (h : ReqFrame) (code : Nat) (judge : State → Verdict) : State → State :=
  plainRequest h code (fun s => if h.short then refuse .argument else judge s)

/-! ### The transmitters (R195) -/

/-- The queue the UP arbiter chooses (R195). -/
def arbiterChoice (m : MillLink) : Option Served :=
  match m.throughUp.isEmpty, m.own.isEmpty with
  | true, true => none
  | false, true => some .through
  | true, false => some .own
  | false, false => some (if m.lastServed = .through then .own else .through)

/-- The oldest frame of the chosen queue begins on UP; a frame that leaves the own queue lets a pending notice in
(R195, R203). -/
def beginUp (s : State) : State :=
  match arbiterChoice s.ml, s.ml.throughUp, s.ml.own with
  | some .through, f :: rest, _ =>
    { s with ml.throughUp := rest, ml.upTx := some (.through f), ml.lastServed := .through }
  | some .own, _, f :: rest =>
    refillOwn { s with ml.own := rest, ml.upTx := some (.own f), ml.lastServed := .own }
  | _, _, _ => s

/-- The port counts with `n` more through-down frames discarded. -/
def discardDown (n : Nat) : State → State :=
  modPortCounts (fun c => { c with throughDownDiscarded := satAdd top16 c.throughDownDiscarded n })

end Sys2Proof.Machine
end

