-- ==== Sys2Proof/Machine/Operands.lean ====
section
/-! DEFINITION. The operands of requests: which spindles and segments may be named, and the clamping of loaded values
(R2, R139, R201, R207). -/

namespace Sys2Proof.Machine

/-- A spindle a request may name: in range and not VACANT (R2). -/
def State.namesSpindle (s : State) (n : Nat) : Bool := 1 ≤ n && n ≤ 1920 && (s.spindle n).counted

/-- A segment a request may name: in range and fitted (R2). -/
def State.namesSegment (s : State) (k : Nat) : Bool := 1 ≤ k && k ≤ 80 && s.fitted k

/-- Whether a target may be named (R2). -/
def State.names (s : State) : Target → Bool
  | .spindle n => s.namesSpindle n
  | .segment k => s.namesSegment k

/-- The spindles of a target in ascending number. -/
def targetSpindles : Target → List Nat
  | .spindle n => [n]
  | .segment k => segmentSpindles k

/-- The segment of a target. -/
def targetSegment : Target → Nat
  | .spindle n => segmentOf n
  | .segment k => k

/-- The side of a segment (00 "Spindle numbers"). -/
def segmentSide (k : Nat) : Side := if k ≤ 40 then .A else .B

/-- The side of a target. -/
def targetSide (t : Target) : Side := segmentSide (targetSegment t)

/-! ### Recipe fields (R201) -/

/-- The range of a recipe field by its number (R201); absent outside 1..15. -/
def recipeRange : Nat → Option (Nat × Nat)
  | 1 => some (40, 1000)
  | 2 => some (0, 200)
  | 3 => some (5000, 40000)
  | 4 => some (500000, 12000000)
  | 5 => some (0, 300000)
  | 6 => some (10, 600)
  | 7 => some (1, 60)
  | 8 => some (1, 7)
  | 9 => some (30, 3600)
  | 10 => some (2, 60)
  | 11 => some (30, 600)
  | 12 => some (30, 600)
  | 13 => some (0, 60)
  | 14 => some (60, 1800)
  | 15 => some (100, 16000)
  | _ => none

/-- The recipe with a field set, by its number (R201). -/
def Recipe.setField (r : Recipe) (field v : Nat) : Recipe :=
  match field with
  | 1 => { r with countTex10 := v }
  | 2 => { r with wastePm := v }
  | 3 => { r with nominalRate := v }
  | 4 => { r with doffTarget := v }
  | 5 => { r with doffOverrun := v }
  | 6 => { r with leadTime := v }
  | 7 => { r with forecastPeriod := v }
  | 8 => { r with attemptLimit := v }
  | 9 => { r with ageLimit := v }
  | 10 => { r with verifyWindow := v }
  | 11 => { r with orderLimit := v }
  | 12 => { r with parkLimit := v }
  | 13 => { r with settle := v }
  | 14 => { r with doffLimit := v }
  | 15 => { r with pulseLimit := v }
  | _ => r

/-- The 15 fields in field order (R201). -/
def Recipe.fields (r : Recipe) : List Nat :=
  [r.countTex10, r.wastePm, r.nominalRate, r.doffTarget, r.doffOverrun, r.leadTime, r.forecastPeriod, r.attemptLimit,
   r.ageLimit, r.verifyWindow, r.orderLimit, r.parkLimit, r.settle, r.doffLimit, r.pulseLimit]

/-- Whether a value lies outside a range. -/
def outside (range : Nat × Nat) (v : Nat) : Bool := v < range.1 || range.2 < v

/-- One item written, its value clamped to the field's range (R201). -/
def Recipe.write (r : Recipe) (i : RecipeItem) : Recipe :=
  match recipeRange i.field with
  | some x => r.setField i.field (clampTo x.1 x.2 i.value)
  | none => r

/-- Whether an item's value is clamped (R201). -/
def recipeItemClamped (i : RecipeItem) : Bool := (recipeRange i.field).any (fun x => outside x i.value)

/-! ### Lots (R138, R139) -/

/-- The range of a fill mass in grams (R3, R138). -/
def massRange : Nat × Nat := (100, 4000)

/-- One item written to the lot table, its mass clamped (R139). -/
def writeLot (lots : List Lot) (i : LotItem) : List Lot :=
  lots.set i.cls { mass := clampTo massRange.1 massRange.2 i.mass, valid := i.valid }

/-! ### Profile fields (R206, R207) -/

/-- The range of a profile field, absent where the item names no field (R206, R207). -/
def profileRange : ProfileField → Option (Nat × Nat)
  | .frameNumber => some (1, 250)
  | .segmentsA => some (1, 40)
  | .segmentsB => some (0, 40)
  | .pulseLength => some (500, 5000)
  | .recipe f => recipeRange f
  | .lot c => if c < 16 then some massRange else none
  | .unknown => none

/-- One item written to the pending copy, its value clamped (R207). -/
def Profile.write (p : Profile) (i : ProfileItem) : Profile :=
  match profileRange i.field with
  | none => p
  | some x =>
    let v := clampTo x.1 x.2 i.value
    match i.field with
    | .frameNumber => { p with frameNumber := v }
    | .segmentsA => { p with segmentsA := v }
    | .segmentsB => { p with segmentsB := v }
    | .pulseLength => { p with pulseLength := v }
    | .recipe f => { p with recipe := p.recipe.setField f v }
    | .lot c => { p with lots := p.lots.set c { mass := v, valid := i.valid } }
    | .unknown => p

/-- Whether an item's value is clamped (R207). -/
def profileItemClamped (i : ProfileItem) : Bool := (profileRange i.field).any (fun x => outside x i.value)

/-! ### Pass table items (R198) -/

/-- Whether an item of LOAD_PASS may be written (R198). -/
def passItemAllowed (i : PassItem) : Bool :=
  namesKind i.kind &&
  (isOrderKind i.kind ||
    (i.entry.segment == .deny && i.entry.drive == .deny && i.entry.carriage == .deny && i.entry.doffer == .deny)) &&
  !(i.entry.segment == .whenOut) && !(i.entry.drive == .whenOut)

/-- The down field of an entry for a class of station (R198). -/
def downField (e : PassEntry) : StationKind → Perm
  | .segment => e.segment
  | .drive => e.drive
  | .carriage => e.carriage
  | .doffer => e.doffer
  | .controller => .deny

/-- Whether a permission lets an order through for the station at `a` (R199 step 3). -/
def State.permits (s : State) (a : Nat) : Perm → Bool
  | .deny => false
  | .allow => true
  | .whenOut =>
    match kindAt a with
    | some .carriage => (s.carriage (sideAt a)).state == .out
    | some .doffer => s.df.state == .spinning || s.df.state == .halted
    | some .segment => false
    | some .drive => false
    | some .controller => false
    | none => false
  | .whenStopped =>
    s.df.state == .halted || s.df.state == .blocked || s.df.state == .suspended || s.df.state == .faulted

/-- The three header bytes and the line payload of a STATION_ORDER (R214): address, kind, stated length, payload. -/
def stationOrderFields (raw : List Byte) : Option (Nat × Nat × List Byte) :=
  match raw with
  | a :: k :: n :: rest =>
    if n.toNat ≤ 64 ∧ rest.length = n.toNat then some (a.toNat, k.toNat, rest) else none
  | _ => none

end Sys2Proof.Machine
end

