-- ==== Sys2Proof/Machine/SpindleRequests.lean ====
section
/-! DEFINITION. The requests of chapters 1 to 3: READ_SPINDLES, SERVICE_OUT, SERVICE_IN, READ_SEGMENT, READ_DELIVERY. -/

namespace Sys2Proof.Machine

/-- The spindle record as READ_SPINDLES gives it (R22). -/
def spindleView (s : State) (n : Nat) : SpindleView :=
  let p := s.spindle n
  { number := n, state := p.state, held := p.held, slow := p.slow, lotReported := p.lotReported,
    latched := (s.cell n).latched, attempts := p.attempts, breaks := p.breaks, listStatus := p.listStatus,
    breakMark := p.breakMark, produced := producedInShift s p, cop := copLength s p,
    remaining := remaining s.recipe p s.dc.frameLength, fillMass := p.fill.map (fun f => f.mass) }

/-- The spindles READ_SPINDLES returns: from the start to the end of its segment, then on from the segment's first (R22). -/
def readOrder (start count : Nat) : List Nat :=
  (List.range count).map (fun i => 24 * (segmentOf start - 1) + 1 + ((start - 1) % 24 + i) % 24)

/-- READ_SPINDLES' verdict (R22). -/
def judgeReadSpindles (start count : Nat) (s : State) : Verdict :=
  if s.namesSpindle start && 1 ≤ count && count ≤ 24 then
    answerWith (.spindles ((readOrder start count).map (spindleView s)))
  else refuse .argument

/-- READ_SPINDLES, code 10h (R22). -/
def execReadSpindles (h : ReqFrame) (start count : Nat) (s : State) : Out :=
  onSupply (argRequest h 0x10 (judgeReadSpindles start count)) s

/-- Refused with BUSY while the Doff Controller is in DOFFING (R130). -/
def unlessDoffing (judge : State → Verdict) (s : State) : Verdict :=
  if s.df.state = .doffing then refuse .busy else judge s

/-- One spindle out of service, with the admission and selection that follow (R19, R70). -/
def serviceOutOne (n : Nat) (s : State) : State := afterRemoval (s.listed n) (sideOf n) (takeOffline n s)

/-- SERVICE_OUT's verdict in its single form (R19). -/
def judgeServiceOut (n : Nat) (s : State) : Verdict :=
  if s.namesSpindle n then perform (serviceOutOne n) else refuse .argument

/-- SERVICE_OUT, code 11h, single form (R19). -/
def execServiceOut (h : ReqFrame) (n : Nat) (s : State) : Out :=
  onSupply (argRequest h 0x11 (unlessDoffing (judgeServiceOut n))) s

/-- A segment out of service as one change: all 24 spindles in ascending number, then admission once for the side (R20). -/
def serviceOutAll (k : Nat) (s : State) : State :=
  afterRemoval ((segmentSpindles k).any s.listed) (segmentSide k) (forEach takeOffline (segmentSpindles k) s)

/-- SERVICE_OUT's verdict in its segment form (R20). -/
def judgeServiceOutSegment (k : Nat) (s : State) : Verdict :=
  if s.namesSegment k then perform (serviceOutAll k) else refuse .argument

/-- SERVICE_OUT, code 11h, segment form (R20). -/
def execServiceOutSegment (h : ReqFrame) (k : Nat) (s : State) : Out :=
  onSupply (argRequest h 0x11 (unlessDoffing (judgeServiceOutSegment k))) s

/-- SERVICE_IN's verdict (R21): in the single form a spindle that is not OFFLINE is refused with STATE. -/
def judgeServiceIn (t : Target) (s : State) : Verdict :=
  if s.names t then
    match t with
    | .spindle n => if (s.spindle n).state = .offline then perform (bringIn n) else refuse .state
    | .segment k => perform (forEach bringIn (segmentSpindles k))
  else refuse .argument

/-- SERVICE_IN, code 12h (R21). -/
def execServiceIn (h : ReqFrame) (t : Target) (s : State) : Out :=
  onSupply (argRequest h 0x12 (unlessDoffing (judgeServiceIn t))) s

/-- READ_SEGMENT's answer (R43). -/
def segmentView (s : State) (k : Nat) : SegmentView :=
  { segment := k, found := s.found k, gate := s.si.gate,
    settleLeft := if s.si.gate = .settling then some s.si.settle.left else none,
    cells := (segmentSpindles k).map s.cell, counts := s.counts k }

/-- READ_SEGMENT's verdict (R43). -/
def judgeReadSegment (k : Nat) (s : State) : Verdict :=
  if s.namesSegment k then answerWith (.segment (segmentView s k)) else refuse .argument

/-- READ_SEGMENT, code 18h (R43). -/
def execReadSegment (h : ReqFrame) (k : Nat) (s : State) : Out :=
  onSupply (argRequest h 0x18 (judgeReadSegment k)) s

/-- READ_DELIVERY's answer (R63). -/
def deliveryView (s : State) : DeliveryView :=
  { frameLength := s.dc.frameLength, rem := s.dc.rem, baseline := s.dc.baseline, drive := s.dc.drive,
    found := s.found 96, runClock := s.dc.runClock, doffMark := s.df.mark, shiftMark := s.sa.mark }

/-- READ_DELIVERY, code 1Ch (R63). -/
def execReadDelivery (h : ReqFrame) (s : State) : Out :=
  onSupply (plainRequest h 0x1C (fun t => answerWith (.delivery (deliveryView t)))) s

end Sys2Proof.Machine
end

