-- ==== Sys2Proof/Machine/DispatchRequests.lean ====
section
/-! DEFINITION. The requests of chapters 4 and 5: holds, ROGUE_RELEASE, READ_LIST and the carriage requests. -/

namespace Sys2Proof.Machine

/-- HOLD on one spindle with the admission and selection that follow a removed entry (R70, R72). -/
def holdOne (n : Nat) (s : State) : State :=
  let t := holdSpindle n s
  afterRemoval (s.listed n && !t.listed n) (sideOf n) t

/-- HOLD's verdict in its single form (R72). -/
def judgeHold (n : Nat) (s : State) : Verdict :=
  if s.namesSpindle n then perform (holdOne n) else refuse .argument

/-- HOLD, code 20h, single form (R72). -/
def execHold (h : ReqFrame) (n : Nat) (s : State) : Out :=
  onSupply (argRequest h 0x20 (unlessDoffing (judgeHold n))) s

/-- HOLD on a segment: all 24 spindles in ascending number, then admission once for the side (R73). -/
def holdAllOf (k : Nat) (s : State) : State :=
  let t := forEach holdSpindle (segmentSpindles k) s
  afterRemoval ((segmentSpindles k).any (fun n => s.listed n && !t.listed n)) (segmentSide k) t

/-- HOLD's verdict in its segment form (R73). -/
def judgeHoldSegment (k : Nat) (s : State) : Verdict :=
  if s.namesSegment k then perform (holdAllOf k) else refuse .argument

/-- HOLD, code 20h, segment form, taken in DOFFING too (R73). -/
def execHoldSegment (h : ReqFrame) (k : Nat) (s : State) : Out :=
  onSupply (argRequest h 0x20 (judgeHoldSegment k)) s

/-- RELEASE (R75): held and hold pending cleared on the target's spindles, then admission once for the side, and selection
after any admission. -/
def releaseTarget (t : Target) (s : State) : State :=
  admitThenSelect (targetSide t) (forEach releaseSpindle (targetSpindles t) s)

/-- RELEASE's verdict (R75): the single form is refused with BUSY in DOFFING, the segment form is not. -/
def judgeRelease (t : Target) (s : State) : Verdict :=
  match t with
  | .spindle n =>
    unlessDoffing (fun s => if s.namesSpindle n then perform (releaseTarget (.spindle n)) else refuse .argument) s
  | .segment k => if s.namesSegment k then perform (releaseTarget (.segment k)) else refuse .argument

/-- RELEASE, code 21h (R75). -/
def execRelease (h : ReqFrame) (t : Target) (s : State) : Out := onSupply (argRequest h 0x21 (judgeRelease t)) s

/-- HOLD_ALL sets the global hold (R76). -/
def setGlobalHold (s : State) : State := { s with pd.globalHold := true }

/-- HOLD_ALL, code 22h (R76). -/
def execHoldAll (h : ReqFrame) (s : State) : Out := onSupply (plainRequest h 0x22 (fun _ => perform setGlobalHold)) s

/-- Whether a RELEASE_ALL finds anything to clear: the global hold, a held spindle, or a hold pending (R76; log 39). -/
def State.holdsAnything (s : State) : Bool :=
  s.pd.globalHold || s.spindles.any (fun p => p.held) || s.pd.lists.a.any (fun e => e.holdPending) ||
  s.pd.lists.b.any (fun e => e.holdPending)

/-- RELEASE_ALL (R76): the global hold, every held flag and every hold pending cleared; admission on both sides, then
selection. With nothing to clear it changes nothing. -/
def clearHolds (s : State) : State :=
  if s.holdsAnything then
    let t := modAllEntries (fun e => { e with holdPending := false })
      (modAllSpindles (fun p => { p with held := false }) { s with pd.globalHold := false })
    selectBoth (admission .B (admission .A t))
  else s

/-- RELEASE_ALL, code 23h (R76). -/
def execReleaseAll (h : ReqFrame) (s : State) : Out := onSupply (plainRequest h 0x23 (fun _ => perform clearHolds)) s

/-- A ROGUE spindle returns to dispatch: DOWN, attempts 0, handed for admission (R86). -/
def releaseRogue (n : Nat) (s : State) : State :=
  admitAndSelect n (modSpindle n (fun p => { p with state := .down, attempts := 0 }) s)

/-- ROGUE_RELEASE's verdict (R86). -/
def judgeRogueRelease (n : Nat) (s : State) : Verdict :=
  if s.namesSpindle n then
    if (s.spindle n).state = .rogue then perform (releaseRogue n) else refuse .state
  else refuse .argument

/-- ROGUE_RELEASE, code 24h (R86). -/
def execRogueRelease (h : ReqFrame) (n : Nat) (s : State) : Out :=
  onSupply (argRequest h 0x24 (unlessDoffing (judgeRogueRelease n))) s

/-- READ_LIST's answer (R88). -/
def listView (s : State) (side : Side) : ListView :=
  let unlisted := (sideSpindles side).filter (fun n => (s.spindle n).listStatus == .unlisted)
  { side := side, entries := s.list side, unlisted := unlisted.length,
    unlistedHeld := (unlisted.filter (fun n => (s.spindle n).held)).length,
    globalHold := s.pd.globalHold, runClock := s.dc.runClock }

/-- A request that names a side or a carriage: any other value is refused with ARGUMENT (R88, R106 to R108). -/
def onSide (side : Option Side) (judge : Side → Verdict) : Verdict :=
  match side with
  | some x => judge x
  | none => refuse .argument

/-- READ_LIST, code 25h (R88). -/
def execReadList (h : ReqFrame) (side : Option Side) (s : State) : Out :=
  onSupply (argRequest h 0x25 (fun t => onSide side (fun x => answerWith (.list (listView t x))))) s

/-- CARRIAGE_OUT: the carriage goes OUT with no event, and awaiting first finding is cleared (R106). -/
def orderOut (side : Side) (s : State) : State :=
  carriageGoesOut side false (modCarriage side (fun c => { c with awaiting := false }) s)

/-- CARRIAGE_OUT, code 28h (R106). -/
def execCarriageOut (h : ReqFrame) (side : Option Side) (s : State) : Out :=
  onSupply (argRequest h 0x28 (fun _ => onSide side (fun x => perform (orderOut x)))) s

/-- CARRIAGE_RESTORE's verdict (R107). -/
def judgeRestore (s : State) (side : Side) : Verdict :=
  if (s.carriage side).state = .out ∧ s.found (carriageAddress side) then perform (bringBack side) else refuse .state

/-- CARRIAGE_RESTORE, code 29h (R107). -/
def execCarriageRestore (h : ReqFrame) (side : Option Side) (s : State) : Out :=
  onSupply (argRequest h 0x29 (fun t => onSide side (judgeRestore t))) s

/-- READ_CARRIAGE's answer (R108). -/
def carriageView (s : State) (side : Side) : CarriageView :=
  { side := side, carriage := s.carriage side, found := s.found (carriageAddress side) }

/-- READ_CARRIAGE, code 2Ah (R108). -/
def execReadCarriage (h : ReqFrame) (side : Option Side) (s : State) : Out :=
  onSupply (argRequest h 0x2A (fun t => onSide side (fun x => answerWith (.carriage (carriageView t x))))) s

end Sys2Proof.Machine
end

