-- ==== Sys2Proof/Machine/DoffRequests.lean ====
section
/-! DEFINITION. The requests of chapter 6: the doff and frame commands and READ_DOFF. -/

namespace Sys2Proof.Machine

/-- DOFF_NOW's verdict (R118). -/
def judgeDoffNow (s : State) : Verdict :=
  if s.df.state = .spinning ∨ s.df.state = .halted then perform (enterDue 2) else refuse .state

/-- DOFF_NOW, code 30h (R118). -/
def execDoffNow (h : ReqFrame) (s : State) : Out := onSupply (plainRequest h 0x30 judgeDoffNow) s

/-- DOFF_INHIBIT (R119, R126): in DUE below the overrun, the frame returns to SPINNING. -/
def setInhibit (s : State) : State :=
  let t := { s with df.inhibit := true }
  if t.df.state = .due ∧ t.doffSpan < t.recipe.doffTarget + t.recipe.doffOverrun then enterSpinning (stopParkTimer t)
  else t

/-- DOFF_INHIBIT, code 31h (R126). -/
def execDoffInhibit (h : ReqFrame) (s : State) : Out :=
  onSupply (plainRequest h 0x31 (fun _ => perform setInhibit)) s

/-- The drive station is found with STOPPED as its last report (R125, R126). -/
def State.driveStopped (s : State) : Bool := s.found 96 && s.dc.drive == some .stopped

/-- DOFF_PERMIT (R126). -/
def clearInhibit (s : State) : State :=
  let t := { s with df.inhibit := false }
  if t.df.state = .spinning then dueTest t
  else if t.df.state = .blocked then (if t.driveStopped then enterDoffing t else enterStopping t)
  else t

/-- DOFF_PERMIT, code 32h (R126). -/
def execDoffPermit (h : ReqFrame) (s : State) : Out :=
  onSupply (plainRequest h 0x32 (fun _ => perform clearInhibit)) s

/-- The doffer is paused: DOFF_PAUSE placed, the doff timer frozen, SUSPENDED (R123). -/
def suspendDoff (s : State) : State :=
  let t := placeDoffer .pause s
  setDoff .suspended { t with df.doffTimer.mode := .frozen }

/-- DOFF_SUSPEND's verdict (R123). -/
def judgeSuspend (s : State) : Verdict :=
  if s.df.state = .doffing then perform suspendDoff else refuse .state

/-- DOFF_SUSPEND, code 33h (R123). -/
def execDoffSuspend (h : ReqFrame) (s : State) : Out := onSupply (plainRequest h 0x33 judgeSuspend) s

/-- The doff goes on: DOFF_CONTINUE placed, the frozen timer running, DOFFING (R123). -/
def resumeDoff (s : State) : State :=
  let t := placeDoffer .resume s
  setDoff .doffing { t with df.doffTimer.mode := .running }

/-- DOFF_RESUME's verdict (R123). -/
def judgeResume (s : State) : Verdict :=
  if s.df.state = .suspended then perform resumeDoff else refuse .state

/-- DOFF_RESUME, code 34h (R123). -/
def execDoffResume (h : ReqFrame) (s : State) : Out := onSupply (plainRequest h 0x34 judgeResume) s

/-- DOFF_RETRY's verdict (R125). -/
def judgeRetry (s : State) : Verdict :=
  if s.df.state = .faulted ∧ s.driveStopped ∧ s.found 99 then perform enterDoffing else refuse .state

/-- DOFF_RETRY, code 35h (R125). -/
def execDoffRetry (h : ReqFrame) (s : State) : Out := onSupply (plainRequest h 0x35 judgeRetry) s

/-- DOFF_CONFIRM's verdict (R125). -/
def judgeConfirm (s : State) : Verdict :=
  if s.df.state = .faulted then perform (completeDoff 1) else refuse .state

/-- DOFF_CONFIRM, code 36h (R125). -/
def execDoffConfirm (h : ReqFrame) (s : State) : Out := onSupply (plainRequest h 0x36 judgeConfirm) s

/-- A HALT comes to wait for the line (R185). A message of a station's own may then be in progress only when no visit is
(R183); a HALT already waiting goes on waiting as it was (log 36). -/
def awaitHalt (s : State) : State :=
  { s with
    lc.haltWaiting := true
    lc.messageFirst := if s.lc.haltWaiting then s.lc.messageFirst else s.lc.visit.isNone }

/-- FRAME_HALT (R130, R185): a HALT waits for the line, and the doff state moves. -/
def haltFrame (s : State) : State :=
  let t := awaitHalt s
  match t.df.state with
  | .spinning => setDoff .halted t
  | .due => setDoff .halted (stopParkTimer t)
  | .stopping => setDoff .halted (stopDoffTimer t)
  | .doffing => suspendDoff t
  | .restarting => setDoff .halted (stopDoffTimer t)
  | .looking => t
  | .halted => t
  | .suspended => t
  | .faulted => t
  | .blocked => t

/-- FRAME_HALT, code 37h (R130). -/
def execFrameHalt (h : ReqFrame) (s : State) : Out := onSupply (plainRequest h 0x37 (fun _ => perform haltFrame)) s

/-- FRAME_RUN in HALTED (R129). -/
def runHalted (s : State) : State :=
  if s.found 96 ∧ s.dc.drive = some .running then enterSpinning s else placeDrive .run s

/-- FRAME_RUN's verdict (R129). -/
def judgeRun (s : State) : Verdict :=
  if s.df.state = .halted then perform runHalted
  else if s.df.state = .restarting then perform (placeDrive .run)
  else refuse .state

/-- FRAME_RUN, code 38h (R129). -/
def execFrameRun (h : ReqFrame) (s : State) : Out := onSupply (plainRequest h 0x38 judgeRun) s

/-- READ_DOFF's answer (R132). It holds the whole of the Doff Controller's state, so it carries the next numbers of the drive and
the doffer too, which R132's first sentence covers and its list does not name (DESIGN CHOICE, log 43). -/
def doffView (s : State) : DoffView :=
  { control := s.df, span := s.doffSpan, doffTarget := s.recipe.doffTarget, doffOverrun := s.recipe.doffOverrun,
    stopSeconds := s.df.stopTime.map (fun t => s.dc.runClock - t) }

/-- READ_DOFF, code 39h (R132). -/
def execReadDoff (h : ReqFrame) (s : State) : Out :=
  onSupply (plainRequest h 0x39 (fun t => answerWith (.doff (doffView t)))) s

end Sys2Proof.Machine
end

