-- ==== Sys2Proof/Machine/LineEvents.lean ====
section
/-! DEFINITION. The events of the frame line: POLL, REPLY_WINDOW_EXPIRY, REPLY, STATION_MESSAGE, HALT (chapter 9). A visit is in
progress from its POLL until its reply is taken or its window has run out (R178). -/

namespace Sys2Proof.Machine

/-- A visit begins (R178, R180): the station in the cursor's slot is polled, and the cursor moves to the next slot, which is
then the slot of the next visit (R177; log 17). No visit begins while one is in progress or a HALT waits (R185). -/
def beginVisit (s : State) : State :=
  if s.lc.visit.isNone ∧ s.lc.haltWaiting = false then
    match s.lc.schedule[s.lc.cursor - 1]? with
    | some a =>
      let t := sendLine (s.pollMessage a) s
      { t with
        lc.visit := some a
        lc.cursor := if s.lc.cursor < s.lc.schedule.length then s.lc.cursor + 1 else 1 }
    | none => s
  else s

/-- POLL (R180). -/
def execPoll (s : State) : Out := onSupply beginVisit s

/-- The visit in progress is over. -/
def endVisit (s : State) : State := { s with lc.visit := none }

/-- The reply window has run out with no reply begun (R182). -/
def windowCloses (s : State) : State :=
  match s.lc.visit with
  | some a => failVisit a (endVisit s)
  | none => s

/-- REPLY_WINDOW_EXPIRY (R182). -/
def execReplyWindowExpiry (s : State) : Out := onSupply windowCloses s

/-- A reply to the visit in progress (R181): good when it passes its checks, is for address 0 and comes from the station
visited; otherwise the visit ends as failed (R182). A reply with no visit in progress is not taken (R178), and bytes without an
opening mark begin no reply (R215; log 22). -/
def takeReply (bytes : List Byte) (s : State) : State :=
  match s.lc.visit with
  | none => s
  | some a =>
    if bytes.contains lineMark = false then s
    else
      let s := endVisit s
      match parseLineMessage bytes with
      | some m => if m.dest = 0 ∧ m.src = a then takeMessage a m s else failVisit a (raiseErrors a s)
      | none => failVisit a (raiseErrors a s)

/-- REPLY (R181). -/
def execReply (bytes : List Byte) (s : State) : Out := onSupply (takeReply bytes) s

/-- The end of a station-initiated message (R183): a good one from a carriage or the doffer is taken whole and answered with
TAKEN; any other raises entry 0's error count and gets none. -/
def endStationMessage (bytes : List Byte) (s : State) : State :=
  match parseLineMessage bytes with
  | some m =>
    if m.dest = 0 ∧ (m.src = 97 ∨ m.src = 98 ∨ m.src = 99) then
      let t := takeMessage m.src m s
      sendLine (t.takenMessage m.src) t
    else raiseErrors 0 s
  | none => raiseErrors 0 s

/-- A station-initiated message (R183). The line is not idle during a visit, and bytes without an opening mark begin no message
(R215; log 22). A waiting HALT wins the line against a message that begins after it, which the station tries again (R184, R190); the
one message that may have been in progress when the HALT came to wait goes before it (R185; log 36). -/
def takeStationMessage (bytes : List Byte) (s : State) : State :=
  if s.lc.visit.isSome ∨ bytes.contains lineMark = false ∨ (s.lc.haltWaiting ∧ s.lc.messageFirst = false) then s
  else endStationMessage bytes { s with lc.messageFirst := false }

/-- STATION_MESSAGE (R183). -/
def execStationMessage (bytes : List Byte) (s : State) : Out := onSupply (takeStationMessage bytes) s

/-- The waiting HALT goes out when the line is free (R185), and the carriages are parked where they stand (R104). -/
def sendHalt (s : State) : State :=
  if s.lc.haltWaiting ∧ s.lc.visit.isNone then
    let t := sendLine haltMessage s
    haltCarriage .B (haltCarriage .A { t with lc.haltWaiting := false, lc.messageFirst := false })
  else s

/-- HALT (R185). -/
def execHalt (s : State) : Out := onSupply sendHalt s

end Sys2Proof.Machine
end

