-- ==== Sys2Proof/Machine/LineRequests.lean ====
section
/-! DEFINITION. The requests of chapter 9: the poll schedule, the station table, MAILBOX_CLEAR; and STATION_ORDER
(R187, R199). -/

namespace Sys2Proof.Machine

/-- LOAD_POLL's verdict (R179). -/
def judgeLoadPoll (addresses : List Nat) (s : State) : Verdict :=
  if 1 ≤ addresses.length ∧ addresses.length ≤ 128 ∧ addresses.all s.hasStation then
    perform (fun t => { t with lc.schedule := addresses, lc.cursor := 1 })
  else refuse .argument

/-- LOAD_POLL, code 50h (R179). -/
def execLoadPoll (h : ReqFrame) (addresses : List Nat) (s : State) : Out :=
  onSupply (argRequest h 0x50 (judgeLoadPoll addresses)) s

/-- READ_POLL, code 51h (R179). -/
def execReadPoll (h : ReqFrame) (s : State) : Out :=
  onSupply (plainRequest h 0x51 (fun t => answerWith (.poll t.lc.schedule t.lc.cursor))) s

/-- An entry's fitted flag (R174). -/
def State.fittedAt (s : State) (a : Nat) : Bool := if 1 ≤ a ∧ a ≤ 80 then s.fitted a else true

/-- One entry of READ_STATIONS' answer (R189). -/
def stationView (s : State) (e : Station) : StationView :=
  { address := e.address, kind := (kindAt e.address).getD .controller, fitted := s.fittedAt e.address, found := e.found,
    silence := e.silence, errors := e.errors, lastHeard := e.lastHeard, lastReport := e.lastReport,
    mailbox := e.mailbox.map (fun o => (o.kind, o.number)), mailboxNext := e.mailboxNext, overrun := e.overrun }

/-- READ_STATIONS' clear mark: every entry's error count is set to 0 (R189). -/
def clearErrors (s : State) : State := { s with lc.stations := s.lc.stations.map (fun e => { e with errors := 0 }) }

/-- READ_STATIONS, code 52h (R189). -/
def execReadStations (h : ReqFrame) (clear : Bool) (s : State) : Out :=
  onSupply
    (plainRequest h 0x52 (fun t =>
      { answer := .done, data := .stations (t.lc.stations.map (stationView t)),
        effect := if clear then clearErrors else id })) s

/-- MAILBOX_CLEAR's verdict (R188). -/
def judgeMailboxClear (a : Nat) (s : State) : Verdict :=
  if s.hasStation a then perform (modStation a (fun e => { e with mailbox := none, overrun := false }))
  else refuse .argument

/-- MAILBOX_CLEAR, code 53h (R188). -/
def execMailboxClear (h : ReqFrame) (a : Nat) (s : State) : Out := onSupply (argRequest h 0x53 (judgeMailboxClear a)) s

/-- An order is placed in an empty mailbox (R187). -/
def placeMail (a kind : Nat) (body : List Byte) : State → State :=
  modStation a (fun e =>
    { e with mailbox := some { kind := kind, payload := body, number := e.mailboxNext },
             mailboxNext := nextNumber e.mailboxNext })

/-- A full mailbox: the held order stands, the overrun flag is set and MAILBOX_OVERRUN raised (R187). -/
def overrunMail (a : Nat) (s : State) : State :=
  raiseEvent .mailboxOverrun a (modStation a (fun e => { e with overrun := true }) s)

/-- A STATION_ORDER's verdict: form, address, pass table, mailbox (R199). -/
def judgeStationOrder (raw : List Byte) (s : State) : Verdict :=
  match stationOrderFields raw with
  | none => refuse .argument
  | some (a, k, body) =>
    if !isOrderKind k then refuse .argument
    else if !s.hasStation a then refuse .argument
    else
      let perm := (kindAt a).elim .deny (downField (s.ml.passTable.getD k closedEntry))
      if !s.permits a perm then refuse .denied
      else if (s.station a).mailbox.isSome then
        { answer := .mailboxFull, data := .empty, effect := overrunMail a }
      else perform (placeMail a k body)

/-- STATION_ORDER (R199), routed like any frame; the code its reply carries is a free value (log 6). -/
def execStationOrder (h : ReqFrame) (s : State) : Out :=
  onSupply (routeUp (orderFrame h) (takeRequest h (Config.stationOrderCode % 256) (judgeStationOrder h.raw))) s

end Sys2Proof.Machine
end

