-- ==== Sys2Proof/Machine/LinkEvents.lean ====
section
/-! DEFINITION. The events of the mill link: the transmitters, the two links, and frames that are not requests (10.1). -/

namespace Sys2Proof.Machine

/-- A transmission begins on UP when the transmitter is idle and its link is up (R195). -/
def startUp (s : State) : State := if s.ml.upTx.isNone ∧ s.ml.upLink then beginUp s else s

/-- UP_TRANSMIT_BEGIN (R195). -/
def execUpTransmitBegin (s : State) : Out := onSupply startUp s

/-- The last byte has gone on UP, which it can only while the link is up (R195). -/
def finishUp (s : State) : State := if s.ml.upLink then { s with ml.upTx := none } else s

/-- UP_TRANSMIT_END (R195). -/
def execUpTransmitEnd (s : State) : Out := onSupply finishUp s

/-- The oldest through-down frame begins on DOWN when the transmitter is idle and the next part connected (R195). -/
def startDown (s : State) : State :=
  if s.ml.downTx.isNone ∧ s.ml.downConnected then
    match s.ml.throughDown with
    | f :: rest => { s with ml.throughDown := rest, ml.downTx := some f }
    | [] => s
  else s

/-- DOWN_TRANSMIT_BEGIN (R195). -/
def execDownTransmitBegin (s : State) : Out := onSupply startDown s

/-- DOWN_TRANSMIT_END (R195). -/
def execDownTransmitEnd (s : State) : Out := onSupply (fun t => { t with ml.downTx := none }) s

/-- DOWN_CONNECTED (R195). -/
def execDownConnected (s : State) : Out := onSupply (fun t => { t with ml.downConnected := true }) s

/-- The DOWN link goes: queued frames and the frame in transmission are lost and counted (R195). -/
def disconnectDown (s : State) : State :=
  let n := s.ml.throughDown.length + (if s.ml.downTx.isSome then 1 else 0)
  discardDown n { s with ml.downConnected := false, ml.throughDown := [], ml.downTx := none }

/-- DOWN_DISCONNECTED (R195). -/
def execDownDisconnected (s : State) : Out := onSupply disconnectDown s

/-- The UP link goes (R195); whether a frame in transmission stays in the transmitter is a free value (log 5). -/
def loseUpLink (s : State) : State :=
  if s.ml.upTx.isSome then
    { s with ml.upLink := false, ml.upTx := if Config.upFrameKept s.freeCount then s.ml.upTx else none,
             freeCount := s.freeCount + 1 }
  else { s with ml.upLink := false }

/-- UP_LINK_LOST (R195). -/
def execUpLinkLost (s : State) : Out := onSupply loseUpLink s

/-- UP_LINK_RESTORED (R195). -/
def execUpLinkRestored (s : State) : Out := onSupply (fun t => { t with ml.upLink := true }) s

/-- A received frame that fails its check is discarded and counted at its port (R193). Bytes without an opening mark are skipped:
no frame began (R214). One that passes is no bad frame and changes nothing here (log 7). -/
def countBad (port : Port) (bytes : List Byte) (s : State) : State :=
  if (parseMillFrame bytes).isSome ∨ bytes.contains millMark = false then s
  else
    modPortCounts (fun c =>
      match port with
      | .up => { c with upBad := satAdd top16 c.upBad 1 }
      | .down => { c with downBad := satAdd top16 c.downBad 1 }) s

/-- BAD_FRAME (R193). -/
def execBadFrame (port : Port) (bytes : List Byte) (s : State) : Out := onSupply (countBad port bytes) s

/-- THROUGH_DOWN_FRAME: a good frame on UP for another part (R194); one for this part or a broadcast is not this event
(log 7). -/
def execThroughDownFrame (f : RawFrame) (s : State) : Out :=
  onSupply (fun t => if f.dest = t.frameNumber ∨ f.dest = 255 then t else joinThroughDown f t) s

/-- THROUGH_UP_FRAME: a good frame on DOWN, whatever its destination (R194). -/
def execThroughUpFrame (f : RawFrame) (s : State) : Out := onSupply (joinThroughUp f) s

/-- A frame addressed here that is no REQUEST and no STATION_ORDER is discarded and counted (R194, R214). -/
def countMisdirected (s : State) : State :=
  modPortCounts (fun c => { c with misdirected := satAdd top16 c.misdirected 1 }) s

/-- MISDIRECTED_FRAME: routed by its destination, a broadcast's copy going on (R194, R214); a REQUEST or a STATION_ORDER is
not this event (log 7). -/
def execMisdirectedFrame (f : RawFrame) (s : State) : Out :=
  onSupply (fun t => if f.type = 1 ∨ f.type = 4 then t else routeUp f countMisdirected t) s

end Sys2Proof.Machine
end

