-- ==== Sys2Proof/Machine/ResetOps.lean ====
section
/-! DEFINITION. Power-on, the loss of the supply, and the warm reset (R23, R24, R44, R65, R89, R110, R134, R156, R170, R171,
R191, R205, R206, R208 to R210). -/

namespace Sys2Proof.Machine

/-- The spindle table built afresh for a geometry (R23). -/
def freshSpindles (a b : Nat) : List Spindle :=
  allSpindles.map (fun n => if fittedIn a b (segmentOf n) then Spindle.fresh 0 else Spindle.vacant)

/-- Sense Intake after any reset (R44). -/
def Intake.initial : Intake :=
  { cells := List.replicate 1920 Cell.blank, segments := List.replicate 80 SegmentCounts.zero, gate := .closed,
    settle := { left := 0, running := false } }

/-- The Line Controller's entries, visit, HALT and cursor after any reset, with a schedule (R191). -/
def LineControl.initial (schedule : List Nat) : LineControl :=
  { stations := stationAddresses.map Station.initial, schedule := schedule, cursor := 1, visit := none,
    haltWaiting := false, messageFirst := false, lineOut := none }

/-- Every block at its power-on values from the profile `p`, before RESET is raised; what the supply does not hold is
kept: the stored profile, the states of the two links (R210), and the model's own fields. -/
def powerOnValues (p : Profile) (src : ProfileSource) (s : State) : State where
  powered := true
  ps := { stored := s.ps.stored, checkPasses := s.ps.checkPasses, pendingCopy := p, inForce := p, source := src,
          busy := false }
  dc := { frameLength := 0, rem := 0, baseline := none, drive := none, firstTaken := false, refound := false,
          runClock := 0 }
  spindles := freshSpindles p.segmentsA p.segmentsB
  si := Intake.initial
  pd := { lists := { a := [], b := [] }, globalHold := false,
          carriages := { a := Carriage.initial, b := Carriage.initial } }
  df := DoffControl.initial
  rm := { lots := p.lots, forecasts := List.replicate 80 none, queue := [], period := 0, periodRunning := false,
          lastFullPass := none, due := [], asked := 0 }
  sa := { number := 0, openedAt := 0, mark := 0, counters := ShiftCounters.zero, history := [] }
  lc := LineControl.initial (defaultSchedule p.segmentsA p.segmentsB)
  ml := { throughDown := [], throughUp := [], own := [], upTx := none, downTx := none, lastServed := .own,
          downConnected := s.ml.downConnected, upLink := s.ml.upLink, ownSeq := 0, resetArm := false,
          counts := PortCounts.zero, passTable := defaultPassTable, recipe := p.recipe, lastReset := .powerOn }
  events := List.replicate 16 EventClass.clear
  overtaken := Overtaken.none
  freeCount := s.freeCount
  pending := s.pending

/-- The power-on reset (R206, R209): the check decides the profile in force, every block takes its power-on values, and
RESET is raised with detail 0. -/
def powerUp (s : State) : State :=
  raiseEvent .reset 0
    (if s.ps.checkPasses then powerOnValues s.ps.stored .stored s else powerOnValues Profile.default .default s)

/-- The loss of the supply (R208): all volatile state goes; a store in progress may leave a stored profile that fails its
check, which is a free value (log 4). -/
def loseSupply (s : State) : State :=
  let t := powerOnValues Profile.default .default s
  { t with
    powered := false
    ps.checkPasses := if s.ps.busy then s.ps.checkPasses && Config.storeCheckSurvives s.freeCount else s.ps.checkPasses
    freeCount := if s.ps.busy then s.freeCount + 1 else s.freeCount }

/-- The profile a warm reset brings into force (R206). -/
def State.profileAtWarm (s : State) : Profile :=
  match s.ps.source with
  | .stored => s.ps.stored
  | .default => Profile.default

/-- A spindle record over a warm reset (R24): `len` the frame length, `was` and `now` whether its segment was and is
fitted, `pendingHold` whether its entry had a hold pending (R89). -/
def warmSpindle (len : Nat) (was now pendingHold : Bool) (p : Spindle) : Spindle :=
  if !now then Spindle.vacant
  else if !was then Spindle.fresh len
  else
    let q := { p with listStatus := .none, slow := false, held := p.held || pendingHold }
    match p.state with
    | .vacant => q
    | .offline => q
    | .rogue => q
    | .spinning => { q with state := .unseen, breakMark := some len, attempts := 0 }
    | .unseen => { q with state := .unseen, breakMark := some (p.breakMark.getD len), attempts := 0 }
    | .down => { q with state := .unseen, breakMark := some (p.breakMark.getD len), attempts := 0 }
    | .servicing => { q with state := .unseen, breakMark := some (p.breakMark.getD len), attempts := 0 }
    | .verifying => { q with state := .unseen, breakMark := some (p.breakMark.getD len), attempts := 0 }
    | .starved => { q with state := .unseen, breakMark := some (p.breakMark.getD len), attempts := 0 }

/-- The spindle table over a warm reset that brings the profile `q` into force (R24, R89). -/
def warmSpindles (q : Profile) (s : State) : List Spindle :=
  List.zipWith
    (fun n p =>
      warmSpindle s.dc.frameLength (s.fitted (segmentOf n)) (fittedIn q.segmentsA q.segmentsB (segmentOf n))
        ((s.entry? n).any (fun e => e.holdPending)) p)
    allSpindles s.spindles

/-- A carriage over a warm reset (R110); its stopped timer holds 0 ms (log 11). -/
def warmCarriage (c : Carriage) : Carriage :=
  { c with state := .out, slot := none, nextNumber := 0, awaiting := true, timer := { left := 0, running := false } }

/-- A warm reset of every block but the Mill Link Port's queues, transmitters, arbiter and the Event Unit (R209). Every
millisecond timer is stopped and holds 0 ms: R134, R110 and R44 say only that it is stopped (log 11). -/
def warmReset (kind : ResetKind) (s : State) : State :=
  let q := s.profileAtWarm
  let sameGeometry := q.segmentsA == s.ps.inForce.segmentsA && q.segmentsB == s.ps.inForce.segmentsB
  let t := chargeStopTime s
  { t with
    ps.inForce := q
    dc.baseline := none
    dc.drive := none
    dc.firstTaken := false
    dc.refound := false
    spindles := warmSpindles q s
    si := Intake.initial
    pd.lists := { a := [], b := [] }
    pd.carriages := { a := warmCarriage s.pd.carriages.a, b := warmCarriage s.pd.carriages.b }
    df.state := .looking
    df.driveSlot := none
    df.driveNext := 0
    df.dofferSlot := none
    df.dofferNext := 0
    df.doffTimer := { left := 0, mode := .stopped }
    df.parkTimer := { left := 0, running := false }
    df.stopTime := none
    rm.forecasts := List.replicate 80 none
    rm.queue := []
    rm.period := 0
    rm.periodRunning := false
    rm.lastFullPass := none
    rm.due := []
    rm.asked := 0
    lc := LineControl.initial
      (if sameGeometry then s.lc.schedule else defaultSchedule q.segmentsA q.segmentsB)
    ml.resetArm := false
    ml.lastReset := kind
    overtaken := Overtaken.none }

/-- Every class with notice pending is queued, in ascending class number (R205). -/
def queuePending (s : State) : State :=
  (List.range 16).foldl (fun t c => if (t.event c).pending then queueNotice c t else t) s

/-- The pin reset (R205, R209, R210): the mill-link queues are emptied and the transmitters idle, pending notices are queued,
and RESET is raised with detail 1. -/
def pinReset (s : State) : State :=
  let t := warmReset .pin s
  let t := { t with ml.throughDown := [], ml.throughUp := [], ml.own := [], ml.upTx := none, ml.downTx := none,
                    ml.lastServed := .own }
  raiseEvent .reset 1 (queuePending t)

/-- The link reset (R205, R209): the Mill Link Port carries on, and RESET is raised with detail 2. -/
def linkReset (s : State) : State := raiseEvent .reset 2 (warmReset .link s)

end Sys2Proof.Machine
end

