-- ==== Sys2Proof/Machine/LinkRequests.lean ====
section
/-! DEFINITION. The requests of chapter 10: STATUS, the recipe, the pass table, events, the profile, resets, and a request whose
code names none. -/

namespace Sys2Proof.Machine

/-- UNKNOWN_REQUEST: a code that names no request is answered UNKNOWN (R197); with a code that does the event has not
happened (log 7). -/
def execUnknownRequest (h : ReqFrame) (code : Nat) (s : State) : Out :=
  onSupply (fun t =>
    if requestCodes.contains code then t else plainRequest h code (fun _ => refuse .unknown) t) s

/-- STATUS's answer (R211). -/
def statusView (s : State) : StatusView :=
  { frameNumber := s.frameNumber, lastReset := s.ml.lastReset, source := s.ps.source, storeBusy := s.ps.busy,
    runClock := s.dc.runClock, doffState := s.df.state, carriageA := (s.carriage .A).state,
    carriageB := (s.carriage .B).state, counts := s.ml.counts, throughDown := s.ml.throughDown.length,
    throughUp := s.ml.throughUp.length, own := s.ml.own.length, downConnected := s.ml.downConnected }

/-- STATUS, code 01h (R211). -/
def execStatus (h : ReqFrame) (clear : Bool) (s : State) : Out :=
  onSupply
    (plainRequest h 0x01 (fun t =>
      { answer := .done, data := .status (statusView t),
        effect := if clear then modPortCounts (fun _ => PortCounts.zero) else id })) s

/-- R31: a settle interval changed in SETTLING is measured from the start of the period; the gate opens when the time already
run is at least the new interval. -/
def resettle (old new : Nat) (s : State) : State :=
  if s.si.gate = .settling ∧ ¬ old = new then
    let run := ms old - s.si.settle.left
    if ms new ≤ run then openGate { s with si.settle := Timer.expired }
    else { s with si.settle := Timer.load (ms new - run) }
  else s

/-- A recipe load as it acts on the blocks (R201): the fields written, the settle interval (R31), the due test in SPINNING
(R118), a full pass fallen due (R154), and selection for both carriages (R77; log 16). -/
def loadRecipe (items : List RecipeItem) (s : State) : State :=
  let t := { s with ml.recipe := items.foldl Recipe.write s.ml.recipe }
  let t := resettle s.recipe.settle t.recipe.settle t
  let t := if t.df.state = .spinning then dueTest t else t
  selectBoth (passDue .full t)

/-- LOAD_RECIPE's verdict (R201). -/
def judgeLoadRecipe (items : List RecipeItem) (_ : State) : Verdict :=
  if 1 ≤ items.length ∧ items.length ≤ 15 ∧ items.all (fun i => (recipeRange i.field).isSome) then
    { answer := clampAnswer (items.filter recipeItemClamped).length, data := .empty, effect := loadRecipe items }
  else refuse .argument

/-- LOAD_RECIPE, code 02h (R201). -/
def execLoadRecipe (h : ReqFrame) (items : List RecipeItem) (s : State) : Out :=
  onSupply (argRequest h 0x02 (judgeLoadRecipe items)) s

/-- READ_RECIPE, code 03h (R201). -/
def execReadRecipe (h : ReqFrame) (s : State) : Out :=
  onSupply (plainRequest h 0x03 (fun t => answerWith (.recipe t.recipe))) s

/-- LOAD_PASS's verdict (R198). -/
def judgeLoadPass (items : List PassItem) (_ : State) : Verdict :=
  if 1 ≤ items.length ∧ items.length ≤ 32 ∧ items.all passItemAllowed then
    perform (fun t => { t with ml.passTable := items.foldl (fun p i => p.set i.kind i.entry) t.ml.passTable })
  else refuse .argument

/-- LOAD_PASS, code 04h (R198). -/
def execLoadPass (h : ReqFrame) (items : List PassItem) (s : State) : Out :=
  onSupply (argRequest h 0x04 (judgeLoadPass items)) s

/-- READ_PASS, code 05h (R198). -/
def execReadPass (h : ReqFrame) (s : State) : Out :=
  onSupply (plainRequest h 0x05 (fun t => answerWith (.pass t.ml.passTable))) s

/-- SET_MASK's effect, class by class in ascending number (R205). -/
def setMasks (masks : List Bool) (s : State) : State :=
  (List.range 16).foldl (fun t c => setMaskBit c (masks.getD c true) t) s

/-- SET_MASK's verdict: the mask bit of every class is required (R197, R205). -/
def judgeSetMask (masks : List Bool) (_ : State) : Verdict :=
  if masks.length < 16 then refuse .argument else perform (setMasks masks)

/-- SET_MASK, code 06h (R205). -/
def execSetMask (h : ReqFrame) (masks : List Bool) (s : State) : Out :=
  onSupply (argRequest h 0x06 (judgeSetMask masks)) s

/-- READ_EVENTS, code 07h (R205). -/
def execReadEvents (h : ReqFrame) (s : State) : Out :=
  onSupply (plainRequest h 0x07 (fun t => answerWith (.events t.events))) s

/-- CLEAR_EVENTS, code 08h (R205). -/
def execClearEvents (h : ReqFrame) (classes : List Nat) (s : State) : Out :=
  onSupply (argRequest h 0x08 (fun _ => perform (forEach clearEvent classes))) s

/-- Refused with BUSY while a store is in progress (R207, R208). -/
def unlessStoring (judge : State → Verdict) (s : State) : Verdict := if s.ps.busy then refuse .busy else judge s

/-- PROFILE_WRITE's verdict (R207). -/
def judgeProfileWrite (items : List ProfileItem) (_ : State) : Verdict :=
  if 1 ≤ items.length ∧ items.length ≤ 40 ∧ items.all (fun i => (profileRange i.field).isSome) then
    { answer := clampAnswer (items.filter profileItemClamped).length, data := .empty,
      effect := fun t => { t with ps.pendingCopy := items.foldl Profile.write t.ps.pendingCopy } }
  else refuse .argument

/-- PROFILE_WRITE, code 09h (R207). -/
def execProfileWrite (h : ReqFrame) (items : List ProfileItem) (s : State) : Out :=
  onSupply (argRequest h 0x09 (unlessStoring (judgeProfileWrite items))) s

/-- PROFILE_STORE, code 0Ah (R208). -/
def execProfileStore (h : ReqFrame) (s : State) : Out :=
  onSupply (plainRequest h 0x0A (unlessStoring (fun _ => perform (fun t => { t with ps.busy := true })))) s

/-- READ_PROFILE, code 0Bh (R207). -/
def execReadProfile (h : ReqFrame) (s : State) : Out :=
  onSupply
    (plainRequest h 0x0B
      (unlessStoring (fun t => answerWith (.profile t.ps.pendingCopy t.ps.inForce t.ps.source)))) s

/-- RESET_ARM, code 0Eh (R209). -/
def execResetArm (h : ReqFrame) (s : State) : Out :=
  onSupply (plainRequest h 0x0E (fun _ => perform (fun t => { t with ml.resetArm := true }))) s

/-- RESET's verdict: armed, the link reset is taken after the reply is queued (R209). -/
def judgeReset (s : State) : Verdict := if s.ml.resetArm then perform linkReset else refuse .notArmed

/-- RESET, code 0Fh (R209). -/
def execReset (h : ReqFrame) (s : State) : Out := onSupply (plainRequest h 0x0F judgeReset) s

end Sys2Proof.Machine
end

