-- ==== Sys2Proof/Machine/RovingRequests.lean ====
section
/-! DEFINITION. The requests of chapter 7: the lot table, ROVING_SET, READ_ROVING, FORECAST_NOW. -/

namespace Sys2Proof.Machine

/-- LOAD_LOTS' verdict (R139). -/
def judgeLoadLots (items : List LotItem) (_ : State) : Verdict :=
  if 1 ≤ items.length ∧ items.length ≤ 16 ∧ items.all (fun i => i.cls < 16) then
    { answer := clampAnswer (items.filter (fun i => outside massRange i.mass)).length, data := .empty,
      effect := fun s => { s with rm.lots := items.foldl writeLot s.rm.lots } }
  else refuse .argument

/-- LOAD_LOTS, code 40h (R139). -/
def execLoadLots (h : ReqFrame) (items : List LotItem) (s : State) : Out :=
  onSupply (argRequest h 0x40 (judgeLoadLots items)) s

/-- READ_LOTS, code 41h (R140). -/
def execReadLots (h : ReqFrame) (s : State) : Out :=
  onSupply (plainRequest h 0x41 (fun t => answerWith (.lots t.rm.lots))) s

/-- The fills of a ROVING_SET with a mass, LOT_FAULT for an invalid class, and the segment pass that falls due (R144). -/
def setRoving (t : Target) (mass : Option Nat) (s : State) : State :=
  let s1 := forEach (makeFill mass) (targetSpindles t) s
  let s2 := if mass.isNone then raiseEvent .lotFault (targetSegment t) s1 else s1
  passDue (.segment (targetSegment t)) s2

/-- ROVING_SET's verdict (R144). -/
def judgeRovingSet (t : Target) (fill : FillArg) (s : State) : Verdict :=
  if s.names t then
    match fill with
    | .byClass c => if c < 16 then perform (setRoving t (s.lotMass c)) else refuse .argument
    | .byMass g =>
      { answer := clampAnswer (if outside massRange g then 1 else 0), data := .empty,
        effect := setRoving t (some (clampTo massRange.1 massRange.2 g)) }
  else refuse .argument

/-- ROVING_SET, code 42h (R144). -/
def execRovingSet (h : ReqFrame) (t : Target) (fill : FillArg) (s : State) : Out :=
  onSupply (argRequest h 0x42 (unlessDoffing (judgeRovingSet t fill))) s

/-- READ_ROVING's answer (R153). -/
def rovingView (s : State) : RovingView :=
  { members := s.rm.queue.map (fun k => (k, s.forecast k)), leadTime := s.recipe.leadTime,
    lastFullPass := s.rm.lastFullPass, period := s.rm.period, periodRunning := s.rm.periodRunning }

/-- READ_ROVING that reaches this part comes after every pass up to the last that a FORECAST_NOW before it started (R152): where
one of them has not been taken yet, it is taken first. A request that a full own queue discards waits for none (R196). -/
def awaitForecast (h : ReqFrame) (s : State) : State :=
  if h.dest = s.frameNumber ∨ h.dest = 255 then takePasses s.rm.asked s else s

/-- READ_ROVING, code 43h (R152, R153). -/
def execReadRoving (h : ReqFrame) (s : State) : Out :=
  onSupply (fun t => plainRequest h 0x43 (fun u => answerWith (.roving (rovingView u))) (awaitForecast h t)) s

/-- FORECAST_NOW, code 44h: a full pass falls due (R152). -/
def execForecastNow (h : ReqFrame) (s : State) : Out :=
  onSupply (plainRequest h 0x44 (fun _ => perform askForecast)) s

end Sys2Proof.Machine
end

