-- ==== Sys2Proof/Machine/ShiftOps.lean ====
section
/-! DEFINITION. Closing a shift (8.3, 8.4). -/

namespace Sys2Proof.Machine

/-- A record goes to the head of the history, which keeps at most four (R165, R166). -/
def pushHistory (r : ShiftRecord) (h : List ShiftRecord) : List ShiftRecord := (r :: h).take 4

/-- Step 1 of a close: the stop-time timer's seconds so far go to the closing shift, and it runs on from the run clock
(R162, R163). -/
def splitStopTime (s : State) : State :=
  match s.df.stopTime with
  | some _ => let s1 := chargeStopTime s; { s1 with df.stopTime := some s1.dc.runClock }
  | none => s

/-- A SHIFT_CLOSE taken with a new number, as one change (R162). -/
def closeShift (number : Nat) (s : State) : State :=
  let s := splitStopTime s
  let record := shiftRecord s (some s.dc.runClock)
  let s := modAllSpindles (fun p => { p with lostShift := 0, breaks := 0 }) s
  let s := { s with sa := { number := number, openedAt := s.dc.runClock, mark := s.dc.frameLength,
                            counters := ShiftCounters.zero, history := pushHistory record s.sa.history } }
  raiseEvent .shiftClosed record.number s

end Sys2Proof.Machine
end

