-- ==== Sys2Proof/Machine/ShiftRequests.lean ====
section
/-! DEFINITION. The requests of chapter 8: SHIFT_CLOSE and READ_SHIFT. -/

namespace Sys2Proof.Machine

/-- SHIFT_CLOSE's effect: a repeated number changes nothing (R161). -/
def shiftCloseEffect (number : Nat) (s : State) : State := if number = s.sa.number then s else closeShift number s

/-- SHIFT_CLOSE, code 48h (R161, R162, R164). -/
def execShiftClose (h : ReqFrame) (number : Nat) (s : State) : Out :=
  onSupply (argRequest h 0x48 (fun _ => perform (shiftCloseEffect number))) s

/-- READ_SHIFT's verdict (R167). -/
def judgeReadShift (index : Nat) (s : State) : Verdict :=
  if index = 0 then answerWith (.shift 0 (shiftRecord s none))
  else
    match s.sa.history[index - 1]? with
    | some r => answerWith (.shift index r)
    | none => refuse .argument

/-- READ_SHIFT, code 49h (R167). -/
def execReadShift (h : ReqFrame) (index : Nat) (s : State) : Out := onSupply (argRequest h 0x49 (judgeReadShift index)) s

end Sys2Proof.Machine
end

