-- ==== Sys2Proof/Machine/SupplyEvents.lean ====
section
/-! DEFINITION. The supply and the reset pin: POWER_ON, PIN_RESET, POWER_LOSS (R208, R209). -/

namespace Sys2Proof.Machine

/-- POWER_ON (R209). A power-on of a part whose supply is present is the supply lost and come again (log 3). -/
def execPowerOn (s : State) : Out := .next (powerUp (if s.powered then loseSupply s else s))

/-- PIN_RESET (R209), at the release of the pin. -/
def execPinReset (s : State) : Out := onSupply pinReset s

/-- POWER_LOSS (R208). -/
def execPowerLoss (s : State) : Out := onSupply loseSupply s

end Sys2Proof.Machine
end

