-- ==== Sys2Proof/Machine/Dispatch.lean ====
section
/-! DEFINITION. One arm for each command: the meaning it has. -/

namespace Sys2Proof.Machine

/-- The effect of a command on everything but the queue of waiting commands. -/
def exec (i : Instr) (s : State) : Host.Outcome State Fault Refusal :=
  match i with
  | .powerOn => Sys2Proof.Machine.execPowerOn s
  | .pinReset => Sys2Proof.Machine.execPinReset s
  | .runClockTick => Sys2Proof.Machine.execRunClockTick s
  | .ageLimitReached side => Sys2Proof.Machine.execAgeLimitReached side s
  | .forecastPeriodExpiry => Sys2Proof.Machine.execForecastPeriodExpiry s
  | .fullPass => Sys2Proof.Machine.execFullPass s
  | .segmentPass segment => Sys2Proof.Machine.execSegmentPass segment s
  | .settleTimerExpiry => Sys2Proof.Machine.execSettleTimerExpiry s
  | .verifyWindowExpiry spindle => Sys2Proof.Machine.execVerifyWindowExpiry spindle s
  | .orderTimerExpiry side => Sys2Proof.Machine.execOrderTimerExpiry side s
  | .parkTimerExpiry => Sys2Proof.Machine.execParkTimerExpiry s
  | .doffTimerExpiry => Sys2Proof.Machine.execDoffTimerExpiry s
  | .storeComplete => Sys2Proof.Machine.execStoreComplete s
  | .poll => Sys2Proof.Machine.execPoll s
  | .replyWindowExpiry => Sys2Proof.Machine.execReplyWindowExpiry s
  | .reply bytes => Sys2Proof.Machine.execReply bytes s
  | .stationMessage bytes => Sys2Proof.Machine.execStationMessage bytes s
  | .halt => Sys2Proof.Machine.execHalt s
  | .upTransmitBegin => Sys2Proof.Machine.execUpTransmitBegin s
  | .upTransmitEnd => Sys2Proof.Machine.execUpTransmitEnd s
  | .downTransmitBegin => Sys2Proof.Machine.execDownTransmitBegin s
  | .downTransmitEnd => Sys2Proof.Machine.execDownTransmitEnd s
  | .downConnected => Sys2Proof.Machine.execDownConnected s
  | .downDisconnected => Sys2Proof.Machine.execDownDisconnected s
  | .badFrame port bytes => Sys2Proof.Machine.execBadFrame port bytes s
  | .throughDownFrame frame => Sys2Proof.Machine.execThroughDownFrame frame s
  | .throughUpFrame frame => Sys2Proof.Machine.execThroughUpFrame frame s
  | .misdirectedFrame frame => Sys2Proof.Machine.execMisdirectedFrame frame s
  | .unknownRequest h code => Sys2Proof.Machine.execUnknownRequest h code s
  | .stationOrder h => Sys2Proof.Machine.execStationOrder h s
  | .status h clear => Sys2Proof.Machine.execStatus h clear s
  | .loadRecipe h items => Sys2Proof.Machine.execLoadRecipe h items s
  | .readRecipe h => Sys2Proof.Machine.execReadRecipe h s
  | .loadPass h items => Sys2Proof.Machine.execLoadPass h items s
  | .readPass h => Sys2Proof.Machine.execReadPass h s
  | .setMask h masks => Sys2Proof.Machine.execSetMask h masks s
  | .readEvents h => Sys2Proof.Machine.execReadEvents h s
  | .clearEvents h classes => Sys2Proof.Machine.execClearEvents h classes s
  | .profileWrite h items => Sys2Proof.Machine.execProfileWrite h items s
  | .profileStore h => Sys2Proof.Machine.execProfileStore h s
  | .readProfile h => Sys2Proof.Machine.execReadProfile h s
  | .resetArm h => Sys2Proof.Machine.execResetArm h s
  | .reset h => Sys2Proof.Machine.execReset h s
  | .readSpindles h start count => Sys2Proof.Machine.execReadSpindles h start count s
  | .serviceOut h spindle => Sys2Proof.Machine.execServiceOut h spindle s
  | .serviceOutSegment h segment => Sys2Proof.Machine.execServiceOutSegment h segment s
  | .serviceIn h target => Sys2Proof.Machine.execServiceIn h target s
  | .readSegment h segment => Sys2Proof.Machine.execReadSegment h segment s
  | .readDelivery h => Sys2Proof.Machine.execReadDelivery h s
  | .hold h spindle => Sys2Proof.Machine.execHold h spindle s
  | .holdSegment h segment => Sys2Proof.Machine.execHoldSegment h segment s
  | .release h target => Sys2Proof.Machine.execRelease h target s
  | .holdAll h => Sys2Proof.Machine.execHoldAll h s
  | .releaseAll h => Sys2Proof.Machine.execReleaseAll h s
  | .rogueRelease h spindle => Sys2Proof.Machine.execRogueRelease h spindle s
  | .readList h side => Sys2Proof.Machine.execReadList h side s
  | .carriageOut h carriage => Sys2Proof.Machine.execCarriageOut h carriage s
  | .carriageRestore h carriage => Sys2Proof.Machine.execCarriageRestore h carriage s
  | .readCarriage h carriage => Sys2Proof.Machine.execReadCarriage h carriage s
  | .doffNow h => Sys2Proof.Machine.execDoffNow h s
  | .doffInhibit h => Sys2Proof.Machine.execDoffInhibit h s
  | .doffPermit h => Sys2Proof.Machine.execDoffPermit h s
  | .doffSuspend h => Sys2Proof.Machine.execDoffSuspend h s
  | .doffResume h => Sys2Proof.Machine.execDoffResume h s
  | .doffRetry h => Sys2Proof.Machine.execDoffRetry h s
  | .doffConfirm h => Sys2Proof.Machine.execDoffConfirm h s
  | .frameHalt h => Sys2Proof.Machine.execFrameHalt h s
  | .frameRun h => Sys2Proof.Machine.execFrameRun h s
  | .readDoff h => Sys2Proof.Machine.execReadDoff h s
  | .loadLots h items => Sys2Proof.Machine.execLoadLots h items s
  | .readLots h => Sys2Proof.Machine.execReadLots h s
  | .rovingSet h target fill => Sys2Proof.Machine.execRovingSet h target fill s
  | .readRoving h => Sys2Proof.Machine.execReadRoving h s
  | .forecastNow h => Sys2Proof.Machine.execForecastNow h s
  | .shiftClose h number => Sys2Proof.Machine.execShiftClose h number s
  | .readShift h index => Sys2Proof.Machine.execReadShift h index s
  | .loadPoll h addresses => Sys2Proof.Machine.execLoadPoll h addresses s
  | .readPoll h => Sys2Proof.Machine.execReadPoll h s
  | .readStations h clear => Sys2Proof.Machine.execReadStations h clear s
  | .mailboxClear h address => Sys2Proof.Machine.execMailboxClear h address s
  | .upLinkLost => Sys2Proof.Machine.execUpLinkLost s
  | .upLinkRestored => Sys2Proof.Machine.execUpLinkRestored s
  | .powerLoss => Sys2Proof.Machine.execPowerLoss s

end Sys2Proof.Machine
end

