-- ==== Sys2Proof/Safety.lean ====
section
/-! DEFINITION. What counts as a safe state, in the terms the claims use: the laws the manual states of the whole machine
(R5, R53, R57, R66, R67, R91, R92, R120, R150, R165, R192), and the vocabulary of requests. -/

namespace Sys2Proof.Machine

/-! ### Requests: what reaches this part, and what an answer leaves -/

/-- A request or station order with this header is taken here: the supply is present, it is addressed here or to the
broadcast, and the own queue has room (R194, R196). -/
abbrev State.takes (s : State) (h : ReqFrame) : Prop :=
  s.powered = true ∧ (h.dest = s.frameNumber ∨ h.dest = 255) ∧ s.ml.own.length < 16

/-- A taken request or order that arrived in the mill frame `f`, answered: a broadcast's copy has gone on toward DOWN, reset
arm is cleared, and one REPLY stands at the tail of the own queue unless it came by broadcast (R194, R196). -/
def State.answeredAs (s : State) (f : RawFrame) (h : ReqFrame) (code : Nat) (a : Answer) (d : ReplyData) : State :=
  let copied := if h.dest = s.frameNumber then s else joinThroughDown f s
  { copied with
    ml.resetArm := false
    ml.own := if h.dest = 255 then s.ml.own
              else s.ml.own ++ [{ dest := h.src, src := s.frameNumber, seq := h.seq, body := .reply code a d }] }

/-- A taken REQUEST, answered. -/
def State.answered (s : State) (h : ReqFrame) (code : Nat) (a : Answer) (d : ReplyData) : State :=
  s.answeredAs (requestFrame h) h code a d

/-- The header of a command that is a REQUEST or a STATION_ORDER, with the mill frame it arrived in; the others, and an
UNKNOWN_REQUEST whose code names a request (log 7), have none. -/
def linkFrame? : Instr → Option (ReqFrame × RawFrame)
  | .powerOn => none
  | .pinReset => none
  | .runClockTick => none
  | .ageLimitReached _ => none
  | .forecastPeriodExpiry => none
  | .fullPass => none
  | .segmentPass _ => none
  | .settleTimerExpiry => none
  | .verifyWindowExpiry _ => none
  | .orderTimerExpiry _ => none
  | .parkTimerExpiry => none
  | .doffTimerExpiry => none
  | .storeComplete => none
  | .poll => none
  | .replyWindowExpiry => none
  | .reply _ => none
  | .stationMessage _ => none
  | .halt => none
  | .upTransmitBegin => none
  | .upTransmitEnd => none
  | .downTransmitBegin => none
  | .downTransmitEnd => none
  | .downConnected => none
  | .downDisconnected => none
  | .badFrame _ _ => none
  | .throughDownFrame _ => none
  | .throughUpFrame _ => none
  | .misdirectedFrame _ => none
  | .unknownRequest h code => if requestCodes.contains code then none else some (h, requestFrame h)
  | .stationOrder h => some (h, orderFrame h)
  | .status h _ => some (h, requestFrame h)
  | .loadRecipe h _ => some (h, requestFrame h)
  | .readRecipe h => some (h, requestFrame h)
  | .loadPass h _ => some (h, requestFrame h)
  | .readPass h => some (h, requestFrame h)
  | .setMask h _ => some (h, requestFrame h)
  | .readEvents h => some (h, requestFrame h)
  | .clearEvents h _ => some (h, requestFrame h)
  | .profileWrite h _ => some (h, requestFrame h)
  | .profileStore h => some (h, requestFrame h)
  | .readProfile h => some (h, requestFrame h)
  | .resetArm h => some (h, requestFrame h)
  | .reset h => some (h, requestFrame h)
  | .readSpindles h _ _ => some (h, requestFrame h)
  | .serviceOut h _ => some (h, requestFrame h)
  | .serviceOutSegment h _ => some (h, requestFrame h)
  | .serviceIn h _ => some (h, requestFrame h)
  | .readSegment h _ => some (h, requestFrame h)
  | .readDelivery h => some (h, requestFrame h)
  | .hold h _ => some (h, requestFrame h)
  | .holdSegment h _ => some (h, requestFrame h)
  | .release h _ => some (h, requestFrame h)
  | .holdAll h => some (h, requestFrame h)
  | .releaseAll h => some (h, requestFrame h)
  | .rogueRelease h _ => some (h, requestFrame h)
  | .readList h _ => some (h, requestFrame h)
  | .carriageOut h _ => some (h, requestFrame h)
  | .carriageRestore h _ => some (h, requestFrame h)
  | .readCarriage h _ => some (h, requestFrame h)
  | .doffNow h => some (h, requestFrame h)
  | .doffInhibit h => some (h, requestFrame h)
  | .doffPermit h => some (h, requestFrame h)
  | .doffSuspend h => some (h, requestFrame h)
  | .doffResume h => some (h, requestFrame h)
  | .doffRetry h => some (h, requestFrame h)
  | .doffConfirm h => some (h, requestFrame h)
  | .frameHalt h => some (h, requestFrame h)
  | .frameRun h => some (h, requestFrame h)
  | .readDoff h => some (h, requestFrame h)
  | .loadLots h _ => some (h, requestFrame h)
  | .readLots h => some (h, requestFrame h)
  | .rovingSet h _ _ => some (h, requestFrame h)
  | .readRoving h => some (h, requestFrame h)
  | .forecastNow h => some (h, requestFrame h)
  | .shiftClose h _ => some (h, requestFrame h)
  | .readShift h _ => some (h, requestFrame h)
  | .loadPoll h _ => some (h, requestFrame h)
  | .readPoll h => some (h, requestFrame h)
  | .readStations h _ => some (h, requestFrame h)
  | .mailboxClear h _ => some (h, requestFrame h)
  | .upLinkLost => none
  | .upLinkRestored => none
  | .powerLoss => none

/-- The header and the request code of a request whose rule requires arguments (R197). -/
def argumentCode? : Instr → Option (ReqFrame × Nat)
  | .loadRecipe h _ => some (h, 0x02)
  | .loadPass h _ => some (h, 0x04)
  | .setMask h _ => some (h, 0x06)
  | .clearEvents h _ => some (h, 0x08)
  | .profileWrite h _ => some (h, 0x09)
  | .readSpindles h _ _ => some (h, 0x10)
  | .serviceOut h _ | .serviceOutSegment h _ => some (h, 0x11)
  | .serviceIn h _ => some (h, 0x12)
  | .readSegment h _ => some (h, 0x18)
  | .hold h _ | .holdSegment h _ => some (h, 0x20)
  | .release h _ => some (h, 0x21)
  | .rogueRelease h _ => some (h, 0x24)
  | .readList h _ => some (h, 0x25)
  | .carriageOut h _ => some (h, 0x28)
  | .carriageRestore h _ => some (h, 0x29)
  | .readCarriage h _ => some (h, 0x2A)
  | .loadLots h _ => some (h, 0x40)
  | .rovingSet h _ _ => some (h, 0x42)
  | .shiftClose h _ => some (h, 0x48)
  | .readShift h _ => some (h, 0x49)
  | .loadPoll h _ => some (h, 0x50)
  | .mailboxClear h _ => some (h, 0x53)
  | .powerOn | .pinReset | .runClockTick | .ageLimitReached _ | .forecastPeriodExpiry | .fullPass | .segmentPass _ => none
  | .settleTimerExpiry | .verifyWindowExpiry _ | .orderTimerExpiry _ | .parkTimerExpiry | .doffTimerExpiry => none
  | .storeComplete | .poll | .replyWindowExpiry | .reply _ | .stationMessage _ | .halt | .upTransmitBegin => none
  | .upTransmitEnd | .downTransmitBegin | .downTransmitEnd | .downConnected | .downDisconnected | .badFrame _ _ => none
  | .throughDownFrame _ | .throughUpFrame _ | .misdirectedFrame _ | .unknownRequest _ _ | .stationOrder _ => none
  | .status _ _ | .readRecipe _ | .readPass _ | .readEvents _ | .profileStore _ | .readProfile _ | .resetArm _ => none
  | .reset _ | .readDelivery _ | .holdAll _ | .releaseAll _ | .doffNow _ | .doffInhibit _ | .doffPermit _ => none
  | .doffSuspend _ | .doffResume _ | .doffRetry _ | .doffConfirm _ | .frameHalt _ | .frameRun _ | .readDoff _ => none
  | .readLots _ | .readRoving _ | .forecastNow _ | .readPoll _ | .readStations _ _ => none
  | .upLinkLost | .upLinkRestored | .powerLoss => none

/-- The default poll schedule of a geometry (R177): the fitted segments in ascending number, in groups of eight with the last
group of one to eight, each group followed by the drive, carriage A, carriage B and the doffer. -/
def DefaultSchedule (a b : Nat) (schedule : List Nat) : Prop :=
  ∃ groups : List (List Nat),
    groups.flatten = (List.range' 1 80).filter (fun k => decide ((1 ≤ k ∧ k ≤ a) ∨ (41 ≤ k ∧ k ≤ 40 + b))) ∧
    (∀ g ∈ groups, 1 ≤ g.length ∧ g.length ≤ 8) ∧ (∀ g ∈ groups.dropLast, g.length = 8) ∧
    schedule = (groups.map (fun g => g ++ [96, 97, 98, 99])).flatten

/-- Two records that differ at most in what dispatch writes: state and list status. -/
def Spindle.sameButDispatch (p q : Spindle) : Prop := q = { p with state := q.state, listStatus := q.listStatus }

/-! ### Laws of marks and lengths -/

/-- The law of marks (R53): the frame length is in its range (R45), and every mark is at most the frame length. -/
def MarksLaw (s : State) : Prop :=
  s.dc.frameLength ≤ top48 ∧ s.sa.mark ≤ s.dc.frameLength ∧ s.df.mark ≤ s.dc.frameLength ∧
  ∀ p ∈ s.spindles, (∀ b ∈ p.breakMark, b ≤ s.dc.frameLength) ∧ (∀ f ∈ p.fill, f.mark ≤ s.dc.frameLength)

/-- The length a down interval that began at a break mark has run since a mark (R54). -/
def openSince (breakMark : Option Nat) (len mark : Nat) : Nat :=
  match breakMark with
  | some b => len - max b mark
  | none => 0

/-- What keeps the conservation law (R57): what a spindle has lost in closed intervals and in the open one never passes the
span since the mark, for the shift mark, the doff mark and a present fill mark alike. -/
def LossLaw (s : State) : Prop :=
  ∀ p ∈ s.spindles,
    let len := s.dc.frameLength
    p.lostShift + openSince p.breakMark len s.sa.mark ≤ len - s.sa.mark ∧
    p.lostDoff + openSince p.breakMark len s.df.mark ≤ len - s.df.mark ∧
    ∀ f ∈ p.fill, p.lostFill + openSince p.breakMark len f.mark ≤ len - f.mark

/-! ### Laws of the lists and the carriages -/

/-- The agreement of a carriage's state with its order slot (R91). -/
def Carriage.slotAgrees (c : Carriage) : Prop :=
  match c.state, c.slot with
  | .idle, none => True
  | .assigned, some o => o.kind.isPiece = true ∧ o.collected = false
  | .working, some o => (o.kind.isPiece = true ∧ o.collected = true) ∨ o.kind = .cancel
  | .parking, some o => o.kind = .park
  | .parked, none => True
  | .out, none => True
  | _, _ => False

/-- The doff states in which no PIECE may be outstanding (R120). -/
def DoffState.barsPieces : DoffState → Bool
  | .stopping => true
  | .doffing => true
  | .suspended => true
  | .faulted => true
  | .blocked => true
  | .restarting => true
  | .looking => false
  | .spinning => false
  | .halted => false
  | .due => false

/-- A carriage with a PIECE outstanding. -/
def Carriage.hasPiece (c : Carriage) : Bool := c.slot.any (fun o => o.kind.isPiece)

/-- What keeps the law that binds doffing to carriage orders (R120): slots agree with states (R91), and in the barred states,
and in LOOKING before them, both carriages are PARKED or OUT. -/
def DoffLaw (s : State) : Prop :=
  (s.carriage .A).slotAgrees ∧ (s.carriage .B).slotAgrees ∧
  ((s.df.state.barsPieces = true ∨ s.df.state = .looking) →
    (s.carriage .A).away = true ∧ (s.carriage .B).away = true)

/-- The agreement of a break-list entry with the record of its spindle and with the carriage of its side (R10, R66, R67,
R92). -/
def State.entryAgrees (s : State) (side : Side) (e : Entry) : Prop :=
  1 ≤ e.spindle ∧ e.spindle ≤ 1920 ∧ sideOf e.spindle = side ∧ (s.spindle e.spindle).held = false ∧
  match e.status with
  | .waiting =>
    (s.spindle e.spindle).state = .down ∧ (s.spindle e.spindle).listStatus = .waiting ∧ e.carriage = none
  | .assigned =>
    (s.spindle e.spindle).state = .servicing ∧ (s.spindle e.spindle).listStatus = .assigned ∧ e.carriage = some side ∧
    s.servicedBy side = some e.spindle
  | .verifying =>
    (s.spindle e.spindle).state = .verifying ∧ (s.spindle e.spindle).listStatus = .verifying ∧ e.carriage = none ∧
    e.window.isSome = true

/-- The agreement of a spindle's record with the geometry in force and with its place in dispatch (R4, R5, R10, R67): VACANT
exactly outside the geometry, a break mark exactly in the down states, an entry in SERVICING and VERIFYING, and UNLISTED exactly
for a DOWN spindle without an entry. -/
def State.recordAgrees (s : State) (n : Nat) : Prop :=
  ((s.spindle n).state = .vacant ↔ s.fitted (segmentOf n) = false) ∧
  (s.spindle n).state.isDown = (s.spindle n).breakMark.isSome ∧
  ((s.spindle n).state = .servicing ∨ (s.spindle n).state = .verifying → s.listed n = true) ∧
  ((s.spindle n).listStatus = .unlisted ↔ (s.spindle n).state = .down ∧ s.listed n = false) ∧
  ((s.spindle n).listStatus = .none ↔ ¬ (s.spindle n).state = .down ∧ s.listed n = false)

/-- The laws of the lists (R4, R5, R10, R67, R92) with R91. -/
def ListLaw (s : State) : Prop :=
  s.spindles.length = 1920 ∧
  (s.carriage .A).slotAgrees ∧ (s.carriage .B).slotAgrees ∧
  ((s.list .A).map (fun e => e.spindle)).Nodup ∧ ((s.list .B).map (fun e => e.spindle)).Nodup ∧
  (∀ e ∈ s.list .A, s.entryAgrees .A e) ∧ (∀ e ∈ s.list .B, s.entryAgrees .B e) ∧
  (∀ n ∈ allSpindles, s.recordAgrees n)

/-- An unheld DOWN spindle of a side is outside the list only while the list holds 48 entries (R69). -/
def RoomLaw (s : State) : Prop :=
  ∀ side, s.listHasRoom side = true → ∀ n ∈ sideSpindles side, waitsOutside (s.spindle n) = false

/-! ### Sizes and queues -/

/-- The sizes of the part's tables and the bounds of its buffers (R3, R26, R66, R135, R157, R165, R174, R177, R192, R198,
R202), and the passes a READ_ROVING waits for among those that have fallen due (R152; log 18). -/
def BufferLaw (s : State) : Prop :=
  s.spindles.length = 1920 ∧ s.si.cells.length = 1920 ∧ s.si.segments.length = 80 ∧ s.rm.forecasts.length = 80 ∧
  s.lc.stations.length = 85 ∧ s.ml.passTable.length = 32 ∧ s.events.length = 16 ∧
  (s.list .A).length ≤ 48 ∧ (s.list .B).length ≤ 48 ∧ s.sa.history.length ≤ 4 ∧
  s.ml.throughDown.length ≤ 8 ∧ s.ml.throughUp.length ≤ 8 ∧ s.ml.own.length ≤ 16 ∧ s.rm.asked ≤ s.rm.due.length

/-- The order of the roving request queue: by recorded forecast ascending, ties by segment number ascending (R150). -/
def standsBefore (s : State) (j k : Nat) : Prop :=
  match s.forecast j, s.forecast k with
  | some x, some y => x < y ∨ (x = y ∧ j < k)
  | _, _ => False

/-- The law of the roving request queue (R150): every member has a recorded forecast, and the members stand in order, none of
them twice. -/
def RovingLaw (s : State) : Prop :=
  (∀ k ∈ s.rm.queue, (s.forecast k).isSome = true) ∧ s.rm.queue.Pairwise (standsBefore s)

end Sys2Proof.Machine
end

