-- ==== Sys2Proof/Certificates/Slice0/Obligations.lean ====
section
/-! DEFINITION. The statements for the provers. Each is about the model's `exec`, `step` or a shared operation, over every state
and operand that meets its hypotheses. `State.takes`, `State.answered` and the laws are defined in Sys2Proof/Safety.lean. -/

open Sys2Proof Sys2Proof.Machine

/-! ### The machine -/

/-- The step takes the command at the front of the queue: it is exec of that command on the state with the queue's rest. -/
def Obligations.StepTakesTheFrontCommand : Prop :=
  ∀ (c : Instr) (rest : List Instr) (s : State), s.pending = c :: rest →
    step s = exec c { s with pending := rest }

/-- R46, R135: RUN_CLOCK_TICK advances the run clock by 1, saturating, and with it the period counter while that runs (log 10).
The MODEL'S CHOICES: on an empty queue one millisecond passes for every running millisecond timer (log 9); with either, the marks of
the timers that an event has loaded afresh while they ran are gone (log 40); and nothing else changes. -/
def Obligations.SecondsAndMillisecondsPass : Prop :=
  (∀ s : State, s.powered = true →
      exec .runClockTick s = .next
        { s with
          overtaken := { doff := false, orders := { a := false, b := false } }
          dc.runClock := min 4294967295 (s.dc.runClock + 1)
          rm.period := if s.rm.periodRunning then min 3600 (s.rm.period + 1) else s.rm.period }) ∧
  (∀ s : State, s.pending = [] →
      let down : Timer → Timer := fun x => { left := if x.running then x.left - 1 else x.left, running := x.running }
      step s = .next
        { s with
          overtaken := { doff := false, orders := { a := false, b := false } }
          si.settle := down s.si.settle
          pd.lists := { a := s.pd.lists.a.map (fun e => { e with window := e.window.map down }),
                        b := s.pd.lists.b.map (fun e => { e with window := e.window.map down }) }
          pd.carriages := { a := { s.pd.carriages.a with timer := down s.pd.carriages.a.timer },
                            b := { s.pd.carriages.b with timer := down s.pd.carriages.b.timer } }
          df.doffTimer := { s.df.doffTimer with
                            left := if s.df.doffTimer.mode = .running then s.df.doffTimer.left - 1 else s.df.doffTimer.left }
          df.parkTimer := down s.df.parkTimer })

/-- The supply: POWER_LOSS takes it away and keeps the stored profile (R208); that a part without it changes at POWER_ON only is
the MODEL'S CHOICE (log 3), and whether a store in progress leaves a profile that passes its check is free (log 4). -/
def Obligations.SupplyGovernsThePart : Prop :=
  (∀ (i : Instr) (s : State), s.powered = false → ¬ i = .powerOn → exec i s = .next s) ∧
  (∀ s : State, s.powered = true → ∃ t, exec .powerLoss s = .next t ∧
    t.powered = false ∧ t.ps.stored = s.ps.stored ∧ t.ps.busy = false ∧
    (s.ps.busy = false → t.ps.checkPasses = s.ps.checkPasses) ∧
    (t.ps.checkPasses = true → s.ps.checkPasses = true) ∧
    t.ml.downConnected = s.ml.downConnected ∧ t.ml.upLink = s.ml.upLink ∧ t.pending = s.pending)

/-- POWER_ON: every block at its power-on values, from the stored profile when it passes its check and from the default profile
otherwise, with the default poll schedule, pass table and the 85 station entries, and RESET raised with detail 0 and noticed (R23,
R44, R65, R89, R110, R134, R156, R170, R177, R191, R198, R205, R206, R210). The MODEL'S CHOICES: a POWER_ON on a part with its
supply loses the supply first (log 3), the states of the two links are kept (log 2), the stopped timers hold 0 ms (log 11), no pass is
due and none awaited (log 18), no refinding is remembered (log 20), and neither a timer nor the line carries the model's own mark
(logs 36, 40). -/
def Obligations.PowerOnGivesEveryBlockItsPowerOnValues : Prop :=
  ∀ s : State, ∃ (t : State) (p : Profile) (src : ProfileSource),
    exec .powerOn s = .next t ∧
    ((src = .stored ∧ p = s.ps.stored ∧ s.ps.checkPasses = true) ∨
      (src = .default ∧ p = Profile.default ∧
        (s.ps.checkPasses = false ∨ (s.powered = true ∧ s.ps.busy = true)))) ∧
    t.powered = true ∧
    t.ps.stored = s.ps.stored ∧ t.ps.pendingCopy = p ∧ t.ps.inForce = p ∧ t.ps.source = src ∧ t.ps.busy = false ∧
    t.dc = { frameLength := 0, rem := 0, baseline := none, drive := none, firstTaken := false, refound := false,
             runClock := 0 } ∧
    (∀ n, 1 ≤ n → n ≤ 1920 →
      t.spindle n =
        if fittedIn p.segmentsA p.segmentsB (segmentOf n) then
          { state := .unseen, held := false, slow := false, lotReported := false, breakMark := some 0, lostShift := 0,
            lostDoff := 0, lostFill := 0, fill := none, attempts := 0, breaks := 0, listStatus := .none }
        else
          { state := .vacant, held := false, slow := false, lotReported := false, breakMark := none, lostShift := 0,
            lostDoff := 0, lostFill := 0, fill := none, attempts := 0, breaks := 0, listStatus := .none }) ∧
    t.si.gate = .closed ∧ t.si.settle.running = false ∧
    t.si.cells = List.replicate 1920 { latched := none, candidate := none } ∧
    t.si.segments = List.replicate 80 { samples := 0, unread := 0, flicker := 0, lastHeard := none } ∧
    t.pd.lists = { a := [], b := [] } ∧ t.pd.globalHold = false ∧
    (∀ side, t.carriage side =
      { state := .out, position := 0, direction := .up, slot := none, nextNumber := 0, awaiting := true,
        timer := { left := 0, running := false }, pieced := 0, stale := 0 }) ∧
    t.df.state = .looking ∧ t.df.mark = 0 ∧ t.df.inhibit = false ∧ t.df.inProgress = false ∧ t.df.lastSegment = 0 ∧
    t.df.driveSlot = none ∧ t.df.driveNext = 0 ∧ t.df.dofferSlot = none ∧ t.df.dofferNext = 0 ∧
    t.df.doffTimer.mode = .stopped ∧ t.df.parkTimer.running = false ∧ t.df.stopTime = none ∧ t.df.ignored = 0 ∧
    t.rm.lots = p.lots ∧ t.rm.forecasts = List.replicate 80 none ∧ t.rm.queue = [] ∧ t.rm.period = 0 ∧
    t.rm.periodRunning = false ∧ t.rm.lastFullPass = none ∧ t.rm.due = [] ∧ t.rm.asked = 0 ∧
    t.sa = { number := 0, openedAt := 0, mark := 0,
             counters := { breaks := 0, piecedA := 0, piecedB := 0, failed := 0, doffs := 0, stopSeconds := 0,
                           exchanges := 0 },
             history := [] } ∧
    (∀ e ∈ t.lc.stations, e.found = (e.address == 0) ∧ e.silence = 0 ∧ e.errors = 0 ∧ e.lastReport = none ∧
      e.lastHeard = none ∧ e.mailbox = none ∧ e.mailboxNext = 0 ∧ e.overrun = false) ∧
    t.lc.stations.map (fun e => e.address) = List.range 81 ++ [96, 97, 98, 99] ∧
    DefaultSchedule p.segmentsA p.segmentsB t.lc.schedule ∧
    t.lc.cursor = 1 ∧ t.lc.haltWaiting = false ∧ t.lc.messageFirst = false ∧ t.lc.visit = none ∧
    t.ml.passTable = (List.range 32).map (fun code =>
      { segment := if code = 24 then .whenStopped else .deny, drive := .deny,
        carriage := if code = 24 then .whenOut else .deny, doffer := if code = 24 then .whenOut else .deny,
        up := decide (code = 9 ∨ code = 14) }) ∧
    t.ml.throughDown = [] ∧ t.ml.throughUp = [] ∧ t.ml.upTx = none ∧ t.ml.downTx = none ∧ t.ml.lastServed = .own ∧
    t.ml.own = [{ dest := 0, src := p.frameNumber, seq := 0, body := .notice 0 true 1 0 0 }] ∧ t.ml.ownSeq = 1 ∧
    t.ml.resetArm = false ∧ t.ml.recipe = p.recipe ∧ t.ml.lastReset = .powerOn ∧
    t.ml.counts = { upBad := 0, downBad := 0, throughDownDiscarded := 0, throughUpDiscarded := 0,
                    requestsDiscarded := 0, reportsDropped := 0, misdirected := 0 } ∧
    t.ml.downConnected = s.ml.downConnected ∧ t.ml.upLink = s.ml.upLink ∧
    t.overtaken = { doff := false, orders := { a := false, b := false } } ∧
    t.events =
      { flag := true, count := 1, detail := 0, mask := true, pending := false, given := true } ::
        List.replicate 15 { flag := false, count := 0, detail := 0, mask := true, pending := false, given := false }

/-- State.reset is the power-on state of a part whose stored profile is the default one and fails its check, with the UP link up
and nothing connected at DOWN: the MODEL'S CHOICE (logs 1, 2). The laws of the whole machine hold there. -/
def Obligations.ResetStateIsAPowerOnState : Prop :=
  exec .powerOn
      { State.reset with
        powered := false
        dc.frameLength := 777
        ml.own := []
        events := [] } = .next State.reset ∧
  MarksLaw State.reset ∧ LossLaw State.reset ∧ DoffLaw State.reset ∧ ListLaw State.reset ∧ RoomLaw State.reset ∧
  BufferLaw State.reset ∧ RovingLaw State.reset

/-! ### Warm resets -/

/-- R24: the spindle records over a pin reset and over an armed link reset. `pendingHold` is the hold pending on the spindle's
entry, which becomes held (R89). -/
def Obligations.WarmResetsKeepTheSpindleRecords : Prop :=
  let recordAfter : State → Nat → Spindle := fun s n =>
    let p := s.spindle n
    let q := s.profileAtWarm
    let pendingHold := (s.entry? n).any (fun e => e.holdPending)
    if fittedIn q.segmentsA q.segmentsB (segmentOf n) = false then Spindle.vacant
    else if s.fitted (segmentOf n) = false then
      { Spindle.vacant with state := .unseen, breakMark := some s.dc.frameLength }
    else if p.state = .vacant ∨ p.state = .offline ∨ p.state = .rogue then
      { p with listStatus := .none, slow := false, held := p.held || pendingHold }
    else
      { p with
        state := .unseen, listStatus := .none, slow := false, attempts := 0, held := p.held || pendingHold,
        breakMark := if p.state = .spinning then some s.dc.frameLength
                     else some (p.breakMark.getD s.dc.frameLength) }
  (∀ s : State, s.powered = true → s.spindles.length = 1920 →
    ∃ t, exec .pinReset s = .next t ∧ ∀ n, 1 ≤ n → n ≤ 1920 → t.spindle n = recordAfter s n) ∧
  (∀ (h : ReqFrame) (s : State), s.takes h → s.ml.resetArm = true → s.spindles.length = 1920 →
    ∃ t, exec (.reset h) s = .next t ∧ ∀ n, 1 ≤ n → n ≤ 1920 → t.spindle n = recordAfter s n)

/-- PIN_RESET: each block's warm values, the mill link's queues emptied and its transmitters idle, every class with notice pending
noticed in ascending class number, and RESET raised with detail 1 (R44, R46, R65, R89, R110, R134, R156, R170, R177, R191, R205, R209,
R210). The MODEL'S CHOICES: a stopped timer holds 0 ms (log 11), the passes that were due are gone and none is awaited (log 18), a
remembered refinding of the drive is forgotten (log 20), and neither a timer nor the line carries the model's own mark (logs 36,
40). -/
def Obligations.PinResetIsWarmAndEmptiesTheMillLink : Prop :=
  (∀ s : State, s.powered = true → s.events.length = 16 → (∀ c < 16, (s.event c).pending = false) →
    let q := if s.ps.source = .stored then s.ps.stored else Profile.default
    ∃ t, exec .pinReset s = .next t ∧
      t.dc = { s.dc with baseline := none, drive := none, firstTaken := false, refound := false } ∧
      t.si.gate = .closed ∧ t.si.settle.running = false ∧
      t.si.cells = List.replicate 1920 { latched := none, candidate := none } ∧
      t.si.segments = List.replicate 80 { samples := 0, unread := 0, flicker := 0, lastHeard := none } ∧
      t.pd.lists = { a := [], b := [] } ∧ t.pd.globalHold = s.pd.globalHold ∧
      (∀ side, t.carriage side =
        { s.carriage side with
          state := .out, slot := none, nextNumber := 0, awaiting := true, timer := { left := 0, running := false } }) ∧
      t.df.state = .looking ∧ t.df.mark = s.df.mark ∧ t.df.inhibit = s.df.inhibit ∧
      t.df.inProgress = s.df.inProgress ∧ t.df.lastSegment = s.df.lastSegment ∧ t.df.driveSlot = none ∧
      t.df.driveNext = 0 ∧ t.df.dofferSlot = none ∧ t.df.dofferNext = 0 ∧ t.df.doffTimer.mode = .stopped ∧
      t.df.parkTimer.running = false ∧ t.df.stopTime = none ∧ t.df.ignored = s.df.ignored ∧
      t.rm.lots = s.rm.lots ∧ t.rm.forecasts = List.replicate 80 none ∧ t.rm.queue = [] ∧ t.rm.period = 0 ∧
      t.rm.periodRunning = false ∧ t.rm.lastFullPass = none ∧ t.rm.due = [] ∧ t.rm.asked = 0 ∧
      t.sa = { s.sa with
        counters.stopSeconds :=
          match s.df.stopTime with
          | some x => min 4294967295 (s.sa.counters.stopSeconds + (s.dc.runClock - x))
          | none => s.sa.counters.stopSeconds } ∧
      t.lc.cursor = 1 ∧ t.lc.haltWaiting = false ∧ t.lc.messageFirst = false ∧ t.lc.visit = none ∧
      (q.segmentsA = s.ps.inForce.segmentsA ∧ q.segmentsB = s.ps.inForce.segmentsB →
        t.lc.schedule = s.lc.schedule) ∧
      (¬ (q.segmentsA = s.ps.inForce.segmentsA ∧ q.segmentsB = s.ps.inForce.segmentsB) →
        DefaultSchedule q.segmentsA q.segmentsB t.lc.schedule) ∧
      t.lc.stations.map (fun e => e.address) = List.range 81 ++ [96, 97, 98, 99] ∧
      (∀ e ∈ t.lc.stations, e.found = (e.address == 0) ∧ e.silence = 0 ∧ e.errors = 0 ∧ e.lastReport = none ∧
        e.lastHeard = none ∧ e.mailbox = none ∧ e.mailboxNext = 0 ∧ e.overrun = false) ∧
      t.ps = { s.ps with inForce := q } ∧
      t.ml.throughDown = [] ∧ t.ml.throughUp = [] ∧ t.ml.upTx = none ∧ t.ml.downTx = none ∧ t.ml.lastServed = .own ∧
      t.ml.resetArm = false ∧ t.ml.counts = s.ml.counts ∧ t.ml.passTable = s.ml.passTable ∧
      t.ml.recipe = s.ml.recipe ∧ t.ml.lastReset = .pin ∧
      t.overtaken = { doff := false, orders := { a := false, b := false } } ∧
      (t.event 0).flag = true ∧ (t.event 0).count = min 255 ((s.event 0).count + 1) ∧ (t.event 0).detail = 1 ∧
      (∀ c, 1 ≤ c → t.event c = s.event c) ∧
      t.ml.own.length = (if (s.event 0).flag = false ∧ (s.event 0).mask = true then 1 else 0)) ∧
  (∀ s : State, s.powered = true → s.events.length = 16 → s.ml.ownSeq < 65536 →
    let frame := if s.ps.source = .stored then s.ps.stored.frameNumber else Profile.default.frameNumber
    let waiting := (List.range 16).filter (fun c => (s.event c).pending)
    let notices : List OwnFrame := waiting.zipIdx.map (fun x =>
      { dest := 0, src := frame, seq := (s.ml.ownSeq + x.2) % 65536,
        body := .notice x.1 (s.event x.1).flag (s.event x.1).count (s.event x.1).detail s.dc.runClock })
    let reset := s.event 0
    ∃ t, exec .pinReset s = .next t ∧
      (∀ c, 1 ≤ c → t.event c =
        if (s.event c).pending = true then { s.event c with pending := false, given := true } else s.event c) ∧
      (reset.flag = true ∨ reset.mask = false →
        t.ml.own = notices ∧
        t.event 0 =
          { reset with
            flag := true, count := min 255 (reset.count + 1), detail := 1, pending := false,
            given := reset.given || reset.pending }) ∧
      (reset.flag = false → reset.mask = true → reset.pending = false →
        t.ml.own = notices ++
          [{ dest := 0, src := frame, seq := (s.ml.ownSeq + waiting.length) % 65536,
             body := .notice 0 true (min 255 (reset.count + 1)) 1 s.dc.runClock }] ∧
        t.event 0 =
          { reset with flag := true, count := min 255 (reset.count + 1), detail := 1, pending := false, given := true }))

/-- R209: RESET_ARM arms, an armed RESET queues its DONE and takes the link reset with the mill link's queues, transmitters, counts
and arbiter carrying on, and a RESET not armed is refused with NOT_ARMED. The MODEL'S CHOICE (log 20): the reset forgets a remembered
refinding of the drive. -/
def Obligations.ArmedResetIsALinkReset : Prop :=
  (∀ (h : ReqFrame) (s : State), s.takes h →
    exec (.resetArm h) s = .next { s.answered h 0x0E .done .empty with ml.resetArm := true }) ∧
  (∀ (h : ReqFrame) (s : State), s.takes h → s.ml.resetArm = false →
    exec (.reset h) s = .next (s.answered h 0x0F .notArmed .empty)) ∧
  (∀ (h : ReqFrame) (s : State), s.takes h → s.ml.resetArm = true → 0 < s.events.length →
    ∃ t, exec (.reset h) s = .next t ∧
      (∃ notice, t.ml.own = (s.answered h 0x0F .done .empty).ml.own ++ notice ∧ notice.length ≤ 1) ∧
      t.ml.throughDown = (s.answered h 0x0F .done .empty).ml.throughDown ∧ t.ml.throughUp = s.ml.throughUp ∧
      t.ml.upTx = s.ml.upTx ∧ t.ml.downTx = s.ml.downTx ∧ t.ml.lastServed = s.ml.lastServed ∧
      t.ml.counts = (s.answered h 0x0F .done .empty).ml.counts ∧ t.ml.resetArm = false ∧ t.ml.lastReset = .link ∧
      (t.event 0).flag = true ∧ (t.event 0).detail = 2 ∧
      t.df.state = .looking ∧ t.si.gate = .closed ∧ t.pd.lists = { a := [], b := [] } ∧
      (t.carriage .A).state = .out ∧ (t.carriage .B).state = .out ∧
      t.dc = { s.dc with baseline := none, drive := none, firstTaken := false, refound := false })

/-! ### The part's own clock, timers and passes -/

/-- R146, R147, R152: the period and FORECAST_NOW make a full pass fall due behind those that fell due before it; the full pass
at the head, taken, records every fitted segment's forecast by R145 on the records as they stand, and starts the period. A
READ_ROVING sent after a FORECAST_NOW is taken after that pass: while one of the passes up to it has not been taken, the first of
them comes before the read (log 18). The MODEL'S CHOICE (log 19): a full pass falls due at every FORECAST_PERIOD_EXPIRY while the
counter stands at or above the period. -/
def Obligations.FullPassesFallDueAndRecomputeEverySegment : Prop :=
  (∀ s : State, s.powered = true → s.rm.periodRunning = true → s.ml.recipe.forecastPeriod * 60 ≤ s.rm.period →
    exec .forecastPeriodExpiry s = .next { s with rm.due := s.rm.due ++ [.full] }) ∧
  (∀ (h : ReqFrame) (s : State), s.takes h →
    exec (.forecastNow h) s = .next
      { s.answered h 0x44 .done .empty with
        rm.due := s.rm.due ++ [.full]
        rm.asked := s.rm.due.length + 1 }) ∧
  (∀ (h : ReqFrame) (p : Pass) (rest : List Pass) (s : State), s.takes h → 0 < s.rm.asked → s.rm.due = p :: rest →
    ∃ t, exec (match p with | .full => .fullPass | .segment k => .segmentPass k) s = .next t ∧
      t.rm.due = rest ∧ t.rm.asked = s.rm.asked - 1 ∧ exec (.readRoving h) s = exec (.readRoving h) t) ∧
  (∀ (s : State) (rest : List Pass), s.powered = true → s.rm.due = .full :: rest → s.rm.forecasts.length = 80 →
    ∃ t, exec .fullPass s = .next t ∧
      t.rm.due = rest ∧ t.rm.lastFullPass = some s.dc.runClock ∧ t.rm.period = 0 ∧ t.rm.periodRunning = true ∧
      (∀ k, 1 ≤ k → k ≤ 80 → t.forecast k = if s.fitted k then segmentForecast s k else s.forecast k) ∧
      (∀ n, t.spindle n = { s.spindle n with lotReported := (t.spindle n).lotReported }) ∧
      t.rm.lots = s.rm.lots ∧ t.dc = s.dc ∧ t.si = s.si ∧ t.pd = s.pd ∧ t.df = s.df ∧ t.sa = s.sa ∧ t.lc = s.lc ∧
      t.ps = s.ps)

/-- R147, R148, R149, R151: the segment pass at the head, taken: the run-outs marked, with LOT_FAULT raised once for each in
ascending spindle number, the segment's forecast, its place in the roving request queue, and ROVING_CALL when it newly enters. The
MODEL'S reading (log 44): so too at a segment pass taken before the first full pass after a reset. -/
def Obligations.SegmentPassPlacesItsSegment : Prop :=
  ∀ (s : State) (k : Nat) (rest : List Pass), s.powered = true → s.rm.due = .segment k :: rest → 1 ≤ k → k ≤ 80 →
    s.rm.forecasts.length = 80 → s.events.length = 16 →
    let runOut := (segmentSpindles k).filter (fun n =>
      decide ((s.spindle n).state = .spinning ∧
        remaining s.ml.recipe (s.spindle n) s.dc.frameLength = some 0 ∧ (s.spindle n).lotReported = false))
    ∃ t, exec (.segmentPass k) s = .next t ∧
      (runOut = [] → t.event 11 = s.event 11) ∧
      (∀ n, runOut.getLast? = some n →
        (t.event 11).flag = true ∧ (t.event 11).detail = n ∧
        (t.event 11).count = min 255 ((s.event 11).count + runOut.length)) ∧
      t.rm.due = rest ∧ t.forecast k = segmentForecast s k ∧ (∀ j, ¬ j = k → t.forecast j = s.forecast j) ∧
      (k ∈ t.rm.queue ↔ ∃ x, segmentForecast s k = some x ∧ x ≤ s.ml.recipe.leadTime) ∧
      (∀ j, ¬ j = k → (j ∈ t.rm.queue ↔ j ∈ s.rm.queue)) ∧
      (k ∈ t.rm.queue → k ∉ s.rm.queue →
        (t.event 10).flag = true ∧ (t.event 10).detail = k ∧
        (t.event 10).count = min 255 ((s.event 10).count + 1)) ∧
      (k ∉ t.rm.queue ∨ k ∈ s.rm.queue → t.event 10 = s.event 10) ∧
      (∀ n, t.spindle n =
        if n ∈ segmentSpindles k ∧ (s.spindle n).state = .spinning ∧
            remaining s.ml.recipe (s.spindle n) s.dc.frameLength = some 0 then
          { s.spindle n with lotReported := true }
        else s.spindle n) ∧
      t.rm.period = s.rm.period ∧ t.rm.periodRunning = s.rm.periodRunning ∧ t.rm.lastFullPass = s.rm.lastFullPass ∧
      t.rm.lots = s.rm.lots ∧ t.dc = s.dc ∧ t.si = s.si ∧ t.pd = s.pd ∧ t.df = s.df ∧ t.sa = s.sa ∧ t.lc = s.lc ∧
      t.ps = s.ps

/-- R29, R83: at the settle timer's expiry the gate is OPEN, the timer stops, every VERIFYING entry's window is loaded afresh and
runs, and selection may give each carriage a PIECE. -/
def Obligations.SettleTimerExpiryOpensTheGate : Prop :=
  ∀ s : State, s.powered = true → s.si.gate = .settling →
    ∃ t, exec .settleTimerExpiry s = .next t ∧
      t.si.gate = .opened ∧ t.si.settle.running = false ∧ t.si.cells = s.si.cells ∧ t.si.segments = s.si.segments ∧
      (∀ side, ∀ e ∈ t.list side, e.status = .verifying →
        e.window = some { left := s.ml.recipe.verifyWindow * 1000, running := true }) ∧
      (∀ side, (t.list side).length = (s.list side).length) ∧
      (∀ n, (s.spindle n).sameButDispatch (t.spindle n)) ∧
      t = { s with si := t.si, pd := t.pd, spindles := t.spindles }

/-- R77, R78, R80: when entries of a side have waited their age and its carriage may be given a PIECE, AGE_LIMIT_REACHED gives it
the one with the lowest admitted at, ties to the lower spindle number, wherever the carriage stands. -/
def Obligations.AgedEntriesAreServedOldestFirst : Prop :=
  ∀ (s : State) (side : Side), s.powered = true →
    s.df.state = .spinning → s.si.gate = .opened → s.pd.globalHold = false → (s.carriage side).state = .idle →
    (∀ e ∈ s.list side, 1 ≤ e.spindle ∧ e.spindle ≤ s.spindles.length ∧ sideOf e.spindle = side) →
    (∃ e ∈ s.list side, s.aged e = true) →
    ∃ e t, e ∈ s.list side ∧ s.aged e = true ∧
      (∀ x ∈ s.list side, s.aged x = true →
        e.admittedAt < x.admittedAt ∨ (e.admittedAt = x.admittedAt ∧ e.spindle ≤ x.spindle)) ∧
      exec (.ageLimitReached side) s = .next t ∧
      (t.carriage side).state = .assigned ∧
      (t.carriage side).slot =
        some { kind := .piece e.spindle (positionOf e.spindle), number := (s.carriage side).nextNumber,
               collected := false } ∧
      (t.carriage side).nextNumber = ((s.carriage side).nextNumber + 1) % 256 ∧
      (t.carriage side).timer = { left := s.ml.recipe.orderLimit * 1000, running := true } ∧
      (t.carriage side).position = (s.carriage side).position ∧
      (t.carriage side).direction =
        (if (s.carriage side).position < positionOf e.spindle then .up
         else if positionOf e.spindle < (s.carriage side).position then .down
         else (s.carriage side).direction) ∧
      t.spindle e.spindle = { s.spindle e.spindle with state := .servicing, listStatus := .assigned } ∧
      (∀ n, ¬ n = e.spindle → t.spindle n = s.spindle n) ∧
      t.list side = (s.list side).map (fun x =>
        if x.spindle = e.spindle then { x with status := .assigned, carriage := some side } else x) ∧
      t = { s with pd := t.pd, spindles := t.spindles }

/-- R79: when no entry of the side has waited its age, selection takes the nearest eligible entry in the carriage's direction, else
the nearest in the reversed direction, else none; the direction is set toward the chosen one. -/
def Obligations.SweepTakesTheNearestEntry : Prop :=
  ∀ (s : State) (side : Side),
    s.df.state = .spinning → s.si.gate = .opened → s.pd.globalHold = false → (s.carriage side).state = .idle →
    (∀ e ∈ s.list side, s.aged e = false) →
    let eligible : Direction → Entry → Prop := fun d e =>
      e ∈ s.list side ∧ e.status = .waiting ∧ e.passedOver = false ∧
      (match d with
        | .up => (s.carriage side).position ≤ positionOf e.spindle
        | .down => positionOf e.spindle ≤ (s.carriage side).position)
    let away : Entry → Nat := fun e =>
      max (positionOf e.spindle) (s.carriage side).position - min (positionOf e.spindle) (s.carriage side).position
    let given : Direction → Entry → Prop := fun d e =>
      ((selectFor side s).carriage side).slot =
        some { kind := .piece e.spindle (positionOf e.spindle), number := (s.carriage side).nextNumber,
               collected := false } ∧
      ((selectFor side s).carriage side).direction =
        (if (s.carriage side).position < positionOf e.spindle then .up
         else if positionOf e.spindle < (s.carriage side).position then .down
         else d)
    let d := (s.carriage side).direction
    ((∃ e, eligible d e) → ∃ e, eligible d e ∧ (∀ x, eligible d x → away e ≤ away x) ∧ given d e) ∧
    ((¬ ∃ e, eligible d e) → (∃ e, eligible d.reverse e) →
      ∃ e, eligible d.reverse e ∧ (∀ x, eligible d.reverse x → away e ≤ away x) ∧ given d.reverse e) ∧
    ((¬ ∃ e, eligible d e) → (¬ ∃ e, eligible d.reverse e) →
      ((selectFor side s).carriage side).state = .idle ∧ (selectFor side s).pd.lists = s.pd.lists ∧
      (selectFor side s).spindles = s.spindles)

/-- R74, R85: a running verify window that runs out counts a failed attempt; the spindle is ROGUE at the attempt limit, DOWN and
UNLISTED where a hold is pending, and DOWN with its entry WAITING otherwise, where selection may take it again. -/
def Obligations.VerifyWindowExpiryCountsAFailedAttempt : Prop :=
  ∀ (s : State) (n : Nat), s.powered = true → s.windowRuns n = true → 1 ≤ n → n ≤ s.spindles.length →
    s.events.length = 16 →
    let p := s.spindle n
    let pendingHold := (s.entry? n).any (fun e => e.holdPending)
    ∃ t, exec (.verifyWindowExpiry n) s = .next t ∧
      t.sa = { s.sa with counters.failed := min 4294967295 (s.sa.counters.failed + 1) } ∧
      (s.ml.recipe.attemptLimit ≤ p.attempts + 1 →
        t.spindle n =
          { p with state := .rogue, attempts := p.attempts + 1, held := p.held || pendingHold, listStatus := .none } ∧
        t.listed n = false ∧ (t.event 4).flag = true ∧ (t.event 4).detail = n) ∧
      (p.attempts + 1 < s.ml.recipe.attemptLimit → pendingHold = true →
        t.spindle n = { p with state := .down, attempts := p.attempts + 1, held := true, listStatus := .unlisted } ∧
        t.listed n = false ∧ t.events = s.events) ∧
      (p.attempts + 1 < s.ml.recipe.attemptLimit → pendingHold = false →
        (t.spindle n = { p with state := .down, attempts := p.attempts + 1, listStatus := .waiting } ∨
          t.spindle n = { p with state := .servicing, attempts := p.attempts + 1, listStatus := .assigned }) ∧
        t.listed n = true ∧ t.events = s.events) ∧
      (∀ m, ¬ m = n → (s.spindle m).sameButDispatch (t.spindle m)) ∧
      t.dc = s.dc ∧ t.si = s.si ∧ t.df = s.df ∧ t.rm = s.rm ∧ t.lc = s.lc ∧ t.ps = s.ps

/-- R71, R100: the order timer's expiry takes the carriage OUT: its slot empties, its timer stops, CARRIAGE_OUT is raised with its
station address, and a spindle it was serving returns to DOWN, its entry to WAITING, with no attempt counted. An expiry that fell
together with an outcome taken first takes nothing OUT (R109). The MODEL'S CHOICES: the expiry is taken while the timer runs,
whatever is left on it, and leaves 0 ms (log 8), and the first one after an outcome that has loaded the timer for the next order is
the one that fell together with it, until time passes (log 40). -/
def Obligations.OrderTimerExpiryTakesTheCarriageOut : Prop :=
  (∀ (s : State) (side : Side), s.powered = true → s.overtaken.orders.get side = true →
    exec (.orderTimerExpiry side) s = .next { s with overtaken.orders := s.overtaken.orders.set side false }) ∧
  (∀ (s : State) (side other : Side), s.powered = true → s.overtaken.orders.get side = false → ¬ other = side →
    (s.carriage side).timer.running = true → ¬ (s.carriage side).state = .out → s.events.length = 16 →
    ∃ t, exec (.orderTimerExpiry side) s = .next t ∧
      t.carriage side =
        { s.carriage side with state := .out, slot := none, timer := { left := 0, running := false } } ∧
      (t.event 5).flag = true ∧ (t.event 5).detail = (match side with | .A => 97 | .B => 98) ∧
      (∀ c, ¬ c = 5 → t.event c = s.event c) ∧
      (∀ n, s.servicedBy side = some n → 1 ≤ n → n ≤ s.spindles.length →
        t.spindle n = { s.spindle n with state := .down, listStatus := .waiting }) ∧
      (∀ n, s.servicedBy side = some n → ∀ e ∈ t.list (sideOf n), e.spindle = n →
        e.status = .waiting ∧ e.carriage = none) ∧
      (∀ n, ¬ s.servicedBy side = some n → t.spindle n = s.spindle n) ∧
      (∀ x, (t.list x).length = (s.list x).length) ∧
      (t.df.state = if s.df.state = .due ∧ (s.carriage other).away = true then .stopping else s.df.state) ∧
      t.overtaken = s.overtaken ∧ t.dc = s.dc ∧ t.si = s.si ∧ t.rm = s.rm ∧ t.sa = s.sa ∧ t.lc = s.lc ∧ t.ps = s.ps)

/-- R119, R121: the park timer's expiry in DUE takes each carriage neither PARKED nor OUT out of service with CARRIAGE_OUT raised,
and the Doff Controller enters STOPPING: STOP placed, the doff timer loaded with doff_limit, the stop-time timer running. The
MODEL'S CHOICES: with both carriages still out of park, A goes OUT before B, so the class's detail is then B's (log 35), and the
expiry is taken while the timer runs, whatever is left on it (log 8). -/
def Obligations.ParkTimerExpiryEntersStopping : Prop :=
  ∀ s : State, s.powered = true → s.df.state = .due → s.df.parkTimer.running = true → s.events.length = 16 →
    ∃ t, exec .parkTimerExpiry s = .next t ∧
      t.df.state = .stopping ∧ t.df.parkTimer.running = false ∧
      t.df.driveSlot = some { order := .stop, number := s.df.driveNext } ∧
      t.df.driveNext = (s.df.driveNext + 1) % 256 ∧
      t.df.doffTimer = { left := s.ml.recipe.doffLimit * 1000, mode := .running } ∧
      t.df.stopTime = (match s.df.stopTime with | some x => some x | none => some s.dc.runClock) ∧
      (∀ side, (t.carriage side).state =
        if (s.carriage side).state = .parked then .parked else .out) ∧
      (∀ side, (s.carriage side).away = false → (t.carriage side).slot = none) ∧
      ((s.carriage .A).away = true → (s.carriage .B).away = true → t.events = s.events) ∧
      ((s.carriage .A).away = false ∨ (s.carriage .B).away = false →
        (t.event 5).flag = true ∧ (t.event 5).detail = (if (s.carriage .B).away = true then 97 else 98)) ∧
      (∀ n, (s.spindle n).sameButDispatch (t.spindle n)) ∧
      t.dc = s.dc ∧ t.si = s.si ∧ t.rm = s.rm ∧ t.sa = s.sa ∧ t.lc = s.lc ∧ t.ps = s.ps

/-- R121, R122, R124, R129: the doff timer's expiry: FAULTED with cause 1 from STOPPING, FAULTED with cause 6 and a DOFF_PAUSE
placed from DOFFING, HALTED with FRAME_STOPPED detail 5 from RESTARTING; the timer stops. An expiry in DOFFING that fell together with
a DOFF_END done taken first leaves RESTARTING (R133). The MODEL'S CHOICES: the expiry is taken while the timer runs, whatever is left
on it, and leaves 0 ms (log 8), and the first one after a report that has loaded the timer afresh is the one that fell together with
it, until time passes (log 40). -/
def Obligations.DoffTimerExpiryFaultsOrHalts : Prop :=
  (∀ s : State, s.powered = true → s.overtaken.doff = true →
    exec .doffTimerExpiry s = .next { s with overtaken.doff := false }) ∧
  (∀ s : State, s.powered = true → s.df.doffTimer.mode = .running → s.overtaken.doff = false → s.events.length = 16 →
    (s.df.state = .stopping → ∃ t, exec .doffTimerExpiry s = .next t ∧
      t.df = { s.df with state := .faulted, doffTimer := { left := 0, mode := .stopped } } ∧
      (t.event 8).flag = true ∧ (t.event 8).detail = 1 ∧ (∀ c, ¬ c = 8 → t.event c = s.event c) ∧
      t = { s with df := t.df, events := t.events, ml := t.ml }) ∧
    (s.df.state = .doffing → ∃ t, exec .doffTimerExpiry s = .next t ∧
      t.df = { s.df with
        state := .faulted, doffTimer := { left := 0, mode := .stopped },
        dofferSlot := some { order := .pause, number := s.df.dofferNext },
        dofferNext := (s.df.dofferNext + 1) % 256 } ∧
      (t.event 8).flag = true ∧ (t.event 8).detail = 6 ∧ (∀ c, ¬ c = 8 → t.event c = s.event c) ∧
      t = { s with df := t.df, events := t.events, ml := t.ml }) ∧
    (s.df.state = .restarting → ∃ t, exec .doffTimerExpiry s = .next t ∧
      t.df = { s.df with state := .halted, doffTimer := { left := 0, mode := .stopped } } ∧
      (t.event 9).flag = true ∧ (t.event 9).detail = 5 ∧ (∀ c, ¬ c = 9 → t.event c = s.event c) ∧
      t = { s with df := t.df, events := t.events, ml := t.ml })) ∧
  (∀ s : State, s.powered = true → s.df.state = .doffing → s.df.doffTimer.mode = .running →
    let t := takeDoffEnd true s
    ∃ u, exec .doffTimerExpiry t = .next u ∧ u.df = t.df ∧ u.df.state = .restarting ∧ u.events = t.events)

/-- R207, R208: PROFILE_STORE starts a store, during which PROFILE_WRITE, PROFILE_STORE and READ_PROFILE are refused with BUSY;
STORE_COMPLETE makes the pending copy the stored profile and raises STORE_DONE, and brings nothing into force. The MODEL'S CHOICE
(log 13): BUSY goes before ARGUMENT, so a PROFILE_WRITE with bad items is refused with BUSY too while a store runs. -/
def Obligations.ProfileStoreIsBusyUntilItCompletes : Prop :=
  (∀ (h : ReqFrame) (s : State), s.takes h → s.ps.busy = false →
    exec (.profileStore h) s = .next { s.answered h 0x0A .done .empty with ps.busy := true }) ∧
  (∀ (h : ReqFrame) (items : List ProfileItem) (s : State), s.takes h → s.ps.busy = true →
    exec (.profileStore h) s = .next (s.answered h 0x0A .busy .empty) ∧
    exec (.readProfile h) s = .next (s.answered h 0x0B .busy .empty) ∧
    (h.short = false → exec (.profileWrite h items) s = .next (s.answered h 0x09 .busy .empty))) ∧
  (∀ s : State, s.powered = true → s.ps.busy = true → s.events.length = 16 →
    ∃ t, exec .storeComplete s = .next t ∧
      t.ps = { s.ps with stored := s.ps.pendingCopy, checkPasses := true, source := .stored, busy := false } ∧
      (t.event 14).flag = true ∧ (t.event 14).detail = 0 ∧ (∀ c, ¬ c = 14 → t.event c = s.event c) ∧
      t = { s with ps := t.ps, events := t.events, ml := t.ml })

/-! ### The frame line -/

/-- R178, R180: with no visit in progress and no HALT waiting, the station in the cursor's slot is polled, the cursor moves to the
next slot, from the last back to slot 1, and the POLL carries the owning block's uncollected order, else the mailbox order, else
none, with the station's last report number taken. That the cursor moves when the visit begins is the MODEL'S reading of R178
(log 17), and so is that the source bit of a POLL with no order is 0 (log 41). -/
def Obligations.PollVisitsTheCursorSlot : Prop :=
  ∀ (s : State) (a : Nat), s.powered = true → s.lc.visit = none → s.lc.haltWaiting = false →
    s.lc.schedule[s.lc.cursor - 1]? = some a →
    ∃ t m, exec .poll s = .next t ∧
      t = { s with
        lc.visit := some a
        lc.lineOut := some m
        lc.cursor := if s.lc.cursor < s.lc.schedule.length then s.lc.cursor + 1 else 1 } ∧
      m.dest = a ∧ m.src = 0 ∧ m.kind = 0x01 ∧
      m.reportNumber = (s.station a).lastReport.getD 0 ∧ m.present = (s.station a).lastReport.isSome ∧
      (∀ o, a = 96 → s.df.driveSlot = some o →
        m.orderKind = (match o.order with | .run => 0x10 | .stop => 0x11) ∧ m.orderNumber = o.number ∧ m.mill = false ∧
        m.payload = []) ∧
      (∀ o, a = 99 → s.df.dofferSlot = some o →
        m.orderKind = (match o.order with | .go _ => 0x15 | .pause => 0x16 | .resume => 0x17) ∧
        m.orderNumber = o.number ∧ m.mill = false ∧
        m.payload = (match o.order with | .go k => [BitVec.ofNat 8 k] | .pause => [] | .resume => [])) ∧
      (∀ o side, a = carriageAddress side → (s.carriage side).slot = some o → o.collected = false →
        m.orderKind = (match o.kind with | .piece _ _ => 0x12 | .cancel => 0x13 | .park => 0x14) ∧
        m.orderNumber = o.number ∧ m.mill = false ∧
        m.payload = (match o.kind with
          | .piece n x => bigEndian 2 n ++ bigEndian 2 x
          | .cancel => []
          | .park => [])) ∧
      ((a = 96 → s.df.driveSlot = none) → (a = 99 → s.df.dofferSlot = none) →
        (∀ side, a = carriageAddress side → ∀ o ∈ (s.carriage side).slot, o.collected = true) →
        (∀ o, (s.station a).mailbox = some o →
          m.orderKind = o.kind ∧ m.orderNumber = o.number ∧ m.mill = true ∧ m.payload = o.payload) ∧
        ((s.station a).mailbox = none →
          m.orderKind = 0 ∧ m.orderNumber = 0 ∧ m.mill = false ∧ m.payload = []))

/-- R40, R52, R105, R117, R119, R121, R122, R123, R175, R176, R182: a visit that ends with no reply, or with a reply that fails its
checks, raises silence, up to 3; a failed reply raises the error count too; the third failure in a row loses a found station, with
STATION_LOST raised and the owning block told. A segment's loss clears its candidates; the drive's closes the gate, and takes the
Doff Controller from SPINNING or DUE to HALTED with FRAME_STOPPED detail 4 and from STOPPING to FAULTED with cause 3; a carriage's
takes it OUT with no CARRIAGE_OUT, its piece taken back; the doffer's takes DOFFING, with a DOFF_PAUSE placed, and SUSPENDED to FAULTED
with cause 5. The MODEL'S CHOICES: bytes without an opening mark begin no reply and leave the visit as it stands (log 22), and a
stopped timer keeps its time (log 11). -/
def Obligations.FailedVisitsRaiseSilenceAndLoseTheStation : Prop :=
  (∀ (s : State) (bytes : List Byte), s.powered = true → 0xA5#8 ∉ bytes → exec (.reply bytes) s = .next s) ∧
  (∀ (s : State) (a : Nat) (bytes : List Byte) (failedReply : Bool), s.powered = true → s.lc.visit = some a →
    (∃ e ∈ s.lc.stations, e.address = a) → s.events.length = 16 →
    (failedReply = true →
      0xA5#8 ∈ bytes ∧ ∀ m, parseLineMessage bytes = some m → ¬ (m.dest = 0 ∧ m.src = a)) →
    let lost := (s.station a).found = true ∧ 2 ≤ (s.station a).silence
    ∃ t, exec (if failedReply then .reply bytes else .replyWindowExpiry) s = .next t ∧
      t.lc.visit = none ∧
      (t.station a).silence = min 3 ((s.station a).silence + 1) ∧
      (t.station a).errors =
        (if failedReply then min 65535 ((s.station a).errors + 1) else (s.station a).errors) ∧
      (lost →
        (t.station a).found = false ∧ (t.station a).lastReport = none ∧
        (t.event 1).flag = true ∧ (t.event 1).detail = a) ∧
      ((s.station a).found = false ∨ (s.station a).silence < 2 →
        (t.station a).found = (s.station a).found ∧ (t.station a).lastReport = (s.station a).lastReport ∧
        t.event 1 = s.event 1 ∧ t.df = s.df ∧ t.pd = s.pd ∧ t.si = s.si ∧ t.spindles = s.spindles) ∧
      ((failedReply = true ∧ (s.station a).errors = 63) → (t.event 15).flag = true ∧ (t.event 15).detail = a) ∧
      (t.station a).mailbox = (s.station a).mailbox ∧ (t.station a).lastHeard = (s.station a).lastHeard ∧
      (∀ b, ¬ b = a → t.station b = s.station b) ∧
      t.lc.schedule = s.lc.schedule ∧ t.lc.cursor = s.lc.cursor ∧ t.dc = s.dc ∧ t.sa = s.sa ∧ t.rm = s.rm ∧
      t.ps = s.ps ∧
      (lost → 1 ≤ a → a ≤ 80 →
        (∀ n, t.cell n =
          if n ∈ segmentSpindles a then { s.cell n with candidate := none } else s.cell n) ∧
        t.si = { s.si with cells := t.si.cells } ∧ t.df = s.df ∧ t.pd = s.pd ∧ t.spindles = s.spindles) ∧
      (lost → a = 96 →
        t.spindles = s.spindles ∧
        (s.si.gate = .closed → t.si = s.si) ∧
        (¬ s.si.gate = .closed →
          t.si = { s.si with
            gate := .closed, settle := { left := s.si.settle.left, running := false },
            cells := s.si.cells.map (fun c => { c with candidate := none }) }) ∧
        (∀ side, t.list side =
          if s.si.gate = .opened then
            (s.list side).map (fun e =>
              { e with window := e.window.map (fun w => if w.running then { left := 0, running := false } else w) })
          else s.list side) ∧
        (∀ side, t.carriage side =
          if s.df.state = .due ∧ (s.carriage side).slot.any (fun o => decide (o.kind = .park)) = true then
            { s.carriage side with timer := { left := s.ml.recipe.orderLimit * 1000, running := true } }
          else s.carriage side) ∧
        (s.df.state = .spinning → t.df = { s.df with state := .halted }) ∧
        (s.df.state = .due →
          t.df = { s.df with state := .halted, parkTimer := { left := s.df.parkTimer.left, running := false } }) ∧
        (s.df.state = .stopping →
          t.df = { s.df with state := .faulted, doffTimer := { left := s.df.doffTimer.left, mode := .stopped } }) ∧
        (¬ s.df.state = .spinning → ¬ s.df.state = .due → ¬ s.df.state = .stopping → t.df = s.df) ∧
        (s.df.state = .spinning ∨ s.df.state = .due → (t.event 9).flag = true ∧ (t.event 9).detail = 4) ∧
        (¬ s.df.state = .spinning → ¬ s.df.state = .due → t.event 9 = s.event 9) ∧
        (s.df.state = .stopping → (t.event 8).flag = true ∧ (t.event 8).detail = 3) ∧
        (¬ s.df.state = .stopping → t.event 8 = s.event 8)) ∧
      (∀ side other, lost → a = carriageAddress side → ¬ other = side →
        t.si = s.si ∧ t.event 5 = s.event 5 ∧ (∀ x, (t.list x).length = (s.list x).length) ∧
        ((s.carriage side).state = .out → t.pd = s.pd ∧ t.df = s.df ∧ t.spindles = s.spindles) ∧
        (¬ (s.carriage side).state = .out →
          t.carriage side =
            { s.carriage side with
              state := .out, slot := none, timer := { left := (s.carriage side).timer.left, running := false } } ∧
          (t.carriage other).state = (s.carriage other).state ∧ (t.carriage other).slot = (s.carriage other).slot ∧
          (∀ n, s.servicedBy side = some n → 1 ≤ n → n ≤ s.spindles.length →
            t.spindle n = { s.spindle n with state := .down, listStatus := .waiting }) ∧
          (∀ n, s.servicedBy side = some n → ∀ e ∈ t.list (sideOf n), e.spindle = n →
            e.status = .waiting ∧ e.carriage = none) ∧
          (∀ n, ¬ s.servicedBy side = some n → t.spindle n = s.spindle n) ∧
          (s.df.state = .due → (s.carriage other).away = true →
            t.df.state = .stopping ∧ t.df.driveSlot = some { order := .stop, number := s.df.driveNext }) ∧
          (¬ (s.df.state = .due ∧ (s.carriage other).away = true) → t.df = s.df))) ∧
      (lost → a = 99 →
        t.si = s.si ∧ t.pd = s.pd ∧ t.spindles = s.spindles ∧
        (s.df.state = .doffing →
          t.df = { s.df with
            state := .faulted, doffTimer := { left := s.df.doffTimer.left, mode := .stopped },
            dofferSlot := some { order := .pause, number := s.df.dofferNext },
            dofferNext := (s.df.dofferNext + 1) % 256 }) ∧
        (s.df.state = .suspended →
          t.df = { s.df with state := .faulted, doffTimer := { left := s.df.doffTimer.left, mode := .stopped } }) ∧
        (s.df.state = .doffing ∨ s.df.state = .suspended → (t.event 8).flag = true ∧ (t.event 8).detail = 5) ∧
        (¬ s.df.state = .doffing → ¬ s.df.state = .suspended → t.df = s.df ∧ t.event 8 = s.event 8)))

/-- R28, R30, R47 to R51, R116, R117, R119, R121 to R123, R129, R215, R216: the drive's good reply with a PULSE, new by its report
number: the pulse delta, limited by pulse_limit, with DRIVE_JUMP raised above it, is turned into length, the baseline becomes the
count, and the drive state is recorded, any code but 1 to 3 as FAULT; the report is then taken by the Doff Controller in each of its
states, and by the gate, which RUNNING from another state, at the first report or after a refinding, takes to SETTLING, or to OPEN
where settle is 0, and any other state closes. The MODEL'S CHOICES: the Doff Controller is told before Sense Intake (log 15), the
refinding is remembered for the next report (log 20), and a stopped timer keeps its time (log 11). -/
def Obligations.DriveReportAdvancesTheFrameLength : Prop :=
  (∀ (s : State) (r ack count code : Nat) (mill present : Bool), s.powered = true → s.lc.visit = some 96 →
    (∃ e ∈ s.lc.stations, e.address = 96) → r < 256 → ack < 256 → count < 65536 → code < 256 →
    ¬ (s.station 96).lastReport = some r →
    let m : LineMessage :=
      { dest := 0, src := 96, kind := 0x0A, orderKind := 0, orderNumber := ack, reportNumber := r, mill := mill,
        present := present, payload := [0x0A#8, 0x03#8] ++ bigEndian 2 count ++ [BitVec.ofNat 8 code] }
    let raw := match s.dc.baseline with
      | none => 0
      | some b => (count + 65536 - b) % 65536
    let total := s.dc.rem + min raw s.ml.recipe.pulseLimit * s.ps.inForce.pulseLength
    let drive : DriveState :=
      if code = 1 then .running else if code = 2 then .stopping else if code = 3 then .stopped else .fault
    let acknowledged := present = true ∧ mill = false ∧ s.df.driveSlot.any (fun o => o.number == ack) = true
    let u := takePulse count drive
      { s with
        dc.refound := s.dc.refound || !s.found 96
        df.driveSlot := if acknowledged then none else s.df.driveSlot }
    ∃ t, exec (.reply m.encode) s = .next t ∧
      t.dc.frameLength = min 281474976710655 (s.dc.frameLength + total / 1000) ∧
      t.dc.rem = total % 1000 ∧ t.dc.baseline = some count ∧
      t.dc.drive = some drive ∧
      t.dc.firstTaken = true ∧ t.dc.refound = false ∧ t.dc.runClock = s.dc.runClock ∧
      (t.station 96).found = true ∧ (t.station 96).silence = 0 ∧ (t.station 96).lastHeard = some s.dc.runClock ∧
      (t.station 96).lastReport = some r ∧ t.lc.visit = none ∧
      t.df = u.df ∧ t.si = u.si ∧ t.pd = u.pd ∧ t.spindles = u.spindles ∧ t.events = u.events ∧ t.rm = u.rm ∧
      t.sa = u.sa) ∧
  (∀ (s : State) (count : Nat) (d : DriveState), count < 65536 → s.events.length = 16 →
    let u := takePulse count d s
    let raw := match s.dc.baseline with
      | none => 0
      | some b => (count + 65536 - b) % 65536
    let spanNow := u.dc.frameLength - s.df.mark
    let limit := s.ml.recipe.doffTarget + (if s.df.inhibit then s.ml.recipe.doffOverrun else 0)
    let changed := ¬ s.dc.drive = some d
    let fresh := changed ∨ s.dc.firstTaken = false ∨ s.dc.refound = true
    let bothOut := (s.carriage .A).state = .out ∧ (s.carriage .B).state = .out
    let bothAway := (s.carriage .A).away = true ∧ (s.carriage .B).away = true
    let stopped : DoffTimer := { left := s.df.doffTimer.left, mode := .stopped }
    let comesDue : Prop := (u.event 6).flag = true ∧ (u.event 6).detail = (if s.df.inhibit then 1 else 0)
    let spins : DoffControl → Prop := fun was =>
      (spanNow < limit → u.event 6 = s.event 6 ∧
        u.df = { was with
          state := .spinning, stopTime := none, inProgress := false,
          lastSegment := if s.df.inProgress then 0 else s.df.lastSegment } ∧
        ∀ side, (s.carriage side).state = .parked →
          (u.carriage side).state = .idle ∨ (u.carriage side).state = .assigned) ∧
      (limit ≤ spanNow → comesDue ∧ (bothOut → u.df.state = .stopping) ∧ (¬ bothOut → u.df.state = .due)) ∧
      (s.df.inProgress = true → (u.event 8).flag = true ∧ (u.event 8).detail = 8) ∧
      (s.df.inProgress = false → u.event 8 = s.event 8) ∧
      u.sa = { s.sa with
        counters.stopSeconds :=
          match s.df.stopTime with
          | some x => min 4294967295 (s.sa.counters.stopSeconds + (s.dc.runClock - x))
          | none => s.sa.counters.stopSeconds }
    let halts : DoffControl → Prop := fun now =>
      u.df = now ∧ (u.event 9).flag = true ∧
      (u.event 9).detail = (match d with | .running => 0 | .stopping => 1 | .stopped => 2 | .fault => 3)
    let faults : Nat → DoffControl → Prop := fun cause now =>
      u.df = now ∧ (u.event 8).flag = true ∧ (u.event 8).detail = cause
    (s.ml.recipe.pulseLimit < raw →
      (u.event 2).flag = true ∧ (u.event 2).detail = raw ∧ (u.event 2).count = min 255 ((s.event 2).count + 1)) ∧
    (raw ≤ s.ml.recipe.pulseLimit → u.event 2 = s.event 2) ∧
    u.rm = (if s.dc.firstTaken then s.rm else { s.rm with due := s.rm.due ++ [.full] }) ∧
    u.lc = s.lc ∧ u.ps = s.ps ∧
    (s.df.state = .looking →
      (d = .running → spins s.df) ∧
      (d = .stopped → s.df.inProgress = true → faults 8 { s.df with state := .faulted, doffTimer := stopped }) ∧
      (¬ d = .running → ¬ (d = .stopped ∧ s.df.inProgress = true) →
        u.df = { s.df with state := .halted } ∧ u.event 8 = s.event 8 ∧ u.event 9 = s.event 9)) ∧
    (s.df.state = .spinning →
      (d = .running → spanNow < limit → u.df = s.df ∧ u.event 6 = s.event 6) ∧
      (d = .running → limit ≤ spanNow →
        comesDue ∧ (bothAway → u.df.state = .stopping) ∧ (¬ bothAway → u.df.state = .due)) ∧
      (¬ d = .running → halts { s.df with state := .halted })) ∧
    (s.df.state = .halted →
      (d = .running → changed ∨ s.dc.refound = true → spins s.df) ∧
      (¬ (d = .running ∧ (changed ∨ s.dc.refound = true)) → u.df = s.df)) ∧
    (s.df.state = .due →
      (d = .running → u.df = s.df) ∧
      (¬ d = .running →
        halts { s.df with state := .halted, parkTimer := { left := s.df.parkTimer.left, running := false } })) ∧
    (s.df.state = .stopping →
      (d = .stopped → s.df.inhibit = true → u.df = { s.df with state := .blocked, doffTimer := stopped }) ∧
      (d = .stopped → s.df.inhibit = false →
        u.df = { s.df with
          state := .doffing, inProgress := true,
          dofferSlot := some { order := .go (s.df.lastSegment + 1), number := s.df.dofferNext },
          dofferNext := (s.df.dofferNext + 1) % 256,
          doffTimer := { left := s.ml.recipe.doffLimit * 1000, mode := .running } }) ∧
      (d = .fault → faults 2 { s.df with state := .faulted, doffTimer := stopped }) ∧
      (d = .running ∨ d = .stopping → u.df = s.df)) ∧
    (s.df.state = .doffing →
      (d = .running →
        faults 7 { s.df with
          state := .faulted, doffTimer := stopped,
          dofferSlot := some { order := .pause, number := s.df.dofferNext },
          dofferNext := (s.df.dofferNext + 1) % 256 }) ∧
      (¬ d = .running → u.df = s.df)) ∧
    (s.df.state = .suspended →
      (d = .running → faults 7 { s.df with state := .faulted, doffTimer := stopped }) ∧
      (¬ d = .running → u.df = s.df)) ∧
    (s.df.state = .faulted ∨ s.df.state = .blocked → u.df = s.df) ∧
    (s.df.state = .restarting →
      (d = .running → spins { s.df with doffTimer := stopped }) ∧
      (¬ d = .running → u.df = s.df)) ∧
    (d = .running → ¬ s.si.gate = .closed ∨ ¬ fresh → u.si = s.si) ∧
    (d = .running → s.si.gate = .closed → fresh → 0 < s.ml.recipe.settle →
      u.si = { s.si with
        gate := .settling, settle := { left := s.ml.recipe.settle * 1000, running := true } }) ∧
    (d = .running → s.si.gate = .closed → fresh → s.ml.recipe.settle = 0 →
      u.si = { s.si with gate := .opened, settle := { left := 0, running := false } } ∧
      ∀ side, ∀ e ∈ u.list side, e.status = .verifying →
        e.window = some { left := s.ml.recipe.verifyWindow * 1000, running := true }) ∧
    (¬ d = .running →
      (s.si.gate = .closed → u.si = s.si) ∧
      (¬ s.si.gate = .closed →
        u.si = { s.si with
          gate := .closed, settle := { left := s.si.settle.left, running := false },
          cells := s.si.cells.map (fun c => { c with candidate := none }) }) ∧
      (∀ side, u.list side =
        if s.si.gate = .opened then
          (s.list side).map (fun e =>
            { e with window := e.window.map (fun w => if w.running then { left := 0, running := false } else w) })
        else s.list side)) ∧
    (∀ n, (s.spindle n).sameButDispatch (u.spindle n)))

/-- R27, R39, R93, R101, R105, R113 to R115, R173, R175, R176, R181, R183, R184, R187, R200, R216: the messages of the stations. A message of
a carriage's own with a PLACE, good and new, sets the carriage's position and is answered with TAKEN; a failed message, and one from a
source that may not begin, raises entry 0's error count and gets no TAKEN. A message commanded during a visit, or one that begins
while a HALT waits, is not taken. A good reply and a good message are taken alike: a repeat hands over and
forwards nothing; an own acknowledgement of the number in the slot empties the drive's or the doffer's slot and collects the
carriage's order, a mill acknowledgement of the mailbox number empties the mailbox, and any other changes nothing; a report whose
kind is marked is copied to the mill, or dropped and counted where the own queue is full; and the finding of a lost station is told
to its block. The reports of a new message go to the blocks of the station's kind in the order they stand, but the SAMPLE ahead of the
EXCHANGE, each with the fields of its body, a body shorter than its kind requires to none but for a SAMPLE; the copies follow. The MODEL'S CHOICES: a message whose destination is not 0 is counted against entry 0 (log 21), bytes without an opening
mark begin no message (log 22), a copy that is dropped takes no number of the own sequence (log 23), the first message commanded after a
FRAME_HALT taken outside a visit is one already in progress then, and no other is (log 36), and the drive's refinding is remembered for
its next report (log 20). -/
def Obligations.StationMessagesAreTakenOrCounted : Prop :=
  (∀ (s : State) (side : Side) (r ack place direction : Nat) (mill present : Bool), s.powered = true →
    s.lc.visit = none → s.lc.haltWaiting = false ∨ s.lc.messageFirst = true →
    (∃ e ∈ s.lc.stations, e.address = carriageAddress side) → r < 256 → ack < 256 →
    place < 65536 → direction < 256 → ¬ (s.station (carriageAddress side)).lastReport = some r →
    let m : LineMessage :=
      { dest := 0, src := carriageAddress side, kind := 0x0C, orderKind := 0, orderNumber := ack, reportNumber := r,
        mill := mill, present := present,
        payload := [0x0C#8, 0x03#8] ++ bigEndian 2 place ++ [BitVec.ofNat 8 direction] }
    ∃ t, exec (.stationMessage m.encode) s = .next t ∧
      (t.carriage side).position = min 960 place ∧
      (¬ s.df.state = .spinning → (t.carriage side).direction = if direction = 1 then .down else .up) ∧
      t.lc.lineOut =
        some { dest := carriageAddress side, src := 0, kind := 0x02, orderKind := 0, orderNumber := 0,
               reportNumber := r, mill := false, present := true, payload := [] } ∧
      (t.station (carriageAddress side)).found = true ∧ (t.station (carriageAddress side)).silence = 0 ∧
      t.lc.cursor = s.lc.cursor ∧ t.dc = s.dc) ∧
  (∀ (s : State) (bytes : List Byte), s.powered = true → 0xA5#8 ∉ bytes →
    exec (.stationMessage bytes) s = .next s) ∧
  (∀ (s : State) (bytes : List Byte), s.powered = true →
    s.lc.visit.isSome = true ∨ (s.lc.haltWaiting = true ∧ s.lc.messageFirst = false) →
    exec (.stationMessage bytes) s = .next s) ∧
  (∀ (s : State) (bytes : List Byte), s.powered = true → s.lc.visit = none →
    s.lc.haltWaiting = false ∨ s.lc.messageFirst = true → 0xA5#8 ∈ bytes →
    (∃ e ∈ s.lc.stations, e.address = 0) →
    (∀ m, parseLineMessage bytes = some m → ¬ (m.dest = 0 ∧ (m.src = 97 ∨ m.src = 98 ∨ m.src = 99))) →
    ∃ t, exec (.stationMessage bytes) s = .next t ∧
      (t.station 0).errors = min 65535 ((s.station 0).errors + 1) ∧
      (∀ b, ¬ b = 0 → t.station b = s.station b) ∧
      t.lc = { s.lc with messageFirst := false, stations := t.lc.stations } ∧
      ((s.station 0).errors = 63 → s.events.length = 16 → (t.event 15).flag = true ∧ (t.event 15).detail = 0) ∧
      t = { s with lc := t.lc, events := t.events, ml := t.ml }) ∧
  (∀ (s : State) (bytes : List Byte) (a : Nat) (m : LineMessage), s.powered = true →
    parseLineMessage bytes = some m → m.dest = 0 → m.src = a →
    (s.lc.visit = some a → exec (.reply bytes) s = .next (takeMessage a m { s with lc.visit := none })) ∧
    (s.lc.visit = none → s.lc.haltWaiting = false ∨ s.lc.messageFirst = true → a = 97 ∨ a = 98 ∨ a = 99 →
      ∃ t, t = takeMessage a m { s with lc.messageFirst := false } ∧ exec (.stationMessage bytes) s = .next
        { t with
          lc.lineOut := some
            { dest := a, src := 0, kind := 0x02, orderKind := 0, orderNumber := 0,
              reportNumber := (t.station a).lastReport.getD 0, mill := false,
              present := (t.station a).lastReport.isSome, payload := [] } })) ∧
  (∀ (s : State) (a : Nat) (m : LineMessage), (∃ e ∈ s.lc.stations, e.address = a) → (s.station a).found = true →
    (s.station a).lastReport = some m.reportNumber ∨ m.payload = [] →
    let t := takeMessage a m s
    let heard : Station :=
      { s.station a with
        silence := 0, lastHeard := some s.dc.runClock, lastReport := some m.reportNumber }
    (∀ b, ¬ b = a → t.station b = s.station b) ∧
    (m.present = true ∧ m.mill = true ∧ (s.station a).mailbox.any (fun o => o.number == m.orderNumber) = true →
      t.station a = { heard with mailbox := none }) ∧
    (¬ (m.present = true ∧ m.mill = true ∧
        (s.station a).mailbox.any (fun o => o.number == m.orderNumber) = true) →
      t.station a = heard) ∧
    t.df.driveSlot =
      (if m.present = true ∧ m.mill = false ∧ a = 96 ∧ s.df.driveSlot.any (fun o => o.number == m.orderNumber) = true
       then none else s.df.driveSlot) ∧
    t.df.dofferSlot =
      (if m.present = true ∧ m.mill = false ∧ a = 99 ∧ s.df.dofferSlot.any (fun o => o.number == m.orderNumber) = true
       then none else s.df.dofferSlot) ∧
    (∀ side o, (s.carriage side).slot = some o →
      (m.present = true ∧ m.mill = false ∧ a = carriageAddress side ∧ o.number = m.orderNumber ∧
          o.collected = false →
        t.carriage side =
          { s.carriage side with
            slot := some { o with collected := true },
            state := if o.kind.isPiece = true then .working else (s.carriage side).state,
            timer := if o.kind = .park ∧ (s.carriage side).timer.running = false then (s.carriage side).timer
                     else { left := s.ml.recipe.orderLimit * 1000, running := true } }) ∧
      (¬ (m.present = true ∧ m.mill = false ∧ a = carriageAddress side ∧ o.number = m.orderNumber ∧
          o.collected = false) →
        t.carriage side = s.carriage side)) ∧
    (∀ side, (s.carriage side).slot = none → t.carriage side = s.carriage side) ∧
    t = { s with
      lc := { s.lc with stations := t.lc.stations }
      df := { s.df with driveSlot := t.df.driveSlot, dofferSlot := t.df.dofferSlot }
      pd := { s.pd with carriages := t.pd.carriages } }) ∧
  (∀ (s : State) (a : Nat) (r : Report),
    let sent := r.kind = 0x04 ∨ r.kind = 0x18 ∨ (1 ≤ a ∧ a ≤ 80 ∧ (r.kind = 0x08 ∨ r.kind = 0x09)) ∨
      (a = 96 ∧ r.kind = 0x0A) ∨ ((a = 97 ∨ a = 98) ∧ (r.kind = 0x0B ∨ r.kind = 0x0C)) ∨
      (a = 99 ∧ (r.kind = 0x0D ∨ r.kind = 0x0E))
    let marked := s.ml.passTable[r.kind]?.any (fun e => e.up) = true
    (sent → marked → s.ml.own.length < 16 →
      forwardReport a r s =
        { s with
          ml.own := s.ml.own ++
            [{ dest := 0, src := s.frameNumber, seq := s.ml.ownSeq,
               body := .report a r.kind s.dc.runClock r.body }]
          ml.ownSeq := (s.ml.ownSeq + 1) % 65536 }) ∧
    (sent → marked → 16 ≤ s.ml.own.length →
      forwardReport a r s =
        { s with ml.counts.reportsDropped := min 65535 (s.ml.counts.reportsDropped + 1) }) ∧
    (¬ (sent ∧ marked) → forwardReport a r s = s)) ∧
  (∀ (s : State) (a : Nat) (k : Nat) (body : List Byte) (m : LineMessage),
    (∃ e ∈ s.lc.stations, e.address = a) → (s.station a).found = true → m.present = false →
    ¬ (s.station a).lastReport = some m.reportNumber → k = 0x04 ∨ k = 0x18 → body.length < 256 →
    m.payload = BitVec.ofNat 8 k :: BitVec.ofNat 8 body.length :: body →
    takeMessage a m s = forwardReport a { kind := k, body := body }
      { s with
        lc.stations := s.lc.stations.map (fun e =>
          if e.address = a then
            { e with found := true, silence := 0, lastHeard := some s.dc.runClock, lastReport := some m.reportNumber }
          else e) }) ∧
  (∀ (s : State) (a : Nat) (m : LineMessage) (reports : List Report), (∃ e ∈ s.lc.stations, e.address = a) →
    (s.station a).found = true ∨ (1 ≤ a ∧ a ≤ 80) ∨ a = 99 → m.present = false →
    ¬ (s.station a).lastReport = some m.reportNumber → (∀ r ∈ reports, r.kind < 256 ∧ r.body.length < 256) →
    m.payload = reports.flatMap (fun r => BitVec.ofNat 8 r.kind :: BitVec.ofNat 8 r.body.length :: r.body) →
    let number : List Byte → Nat := fun bytes => bytes.foldl (fun n x => 256 * n + x.toNat) 0
    let reading : Nat → Option Sense := fun code =>
      if code = 1 then some .spinning else if code = 2 then some .endDown else if code = 3 then some .lagging
      else if code = 4 then some .noRoving else none
    let readings : List Byte → List (Option Sense) := fun b => (List.range 24).map (fun i =>
      match b[i / 2]? with
      | some x => reading (if i % 2 = 0 then x.toNat / 16 else x.toNat % 16)
      | none => none)
    let exchanged : List Byte → List Nat := fun b =>
      ((List.range 24).filter (fun i => (b.getD (1 + i / 8) 0).toNat.testBit (7 - i % 8))).map (fun i => i + 1)
    let drive : Nat → DriveState := fun code =>
      if code = 1 then .running else if code = 2 then .stopping else if code = 3 then .stopped else .fault
    let hand : State → Report → State := fun t r =>
      let b := r.body
      if 1 ≤ a ∧ a ≤ 80 then
        if r.kind = 0x08 then takeSample a (readings b) t
        else if r.kind = 0x09 ∧ 4 ≤ b.length then takeExchange a (number (b.take 1)) (exchanged b) t
        else t
      else if a = 96 then
        if r.kind = 0x0A ∧ 3 ≤ b.length then takePulse (number (b.take 2)) (drive (number ((b.drop 2).take 1))) t else t
      else if a = 97 ∨ a = 98 then
        if r.kind = 0x0B ∧ 4 ≤ b.length then
          takeOutcome (if a = 97 then .A else .B) (number (b.take 1)) (number ((b.drop 1).take 1))
            (number ((b.drop 2).take 2)) t
        else if r.kind = 0x0C ∧ 3 ≤ b.length then
          takePlace (if a = 97 then .A else .B) (number (b.take 2))
            (if number ((b.drop 2).take 1) = 1 then .down else .up) t
        else t
      else if a = 99 then
        if r.kind = 0x0D ∧ 1 ≤ b.length then takeDoffStep (number (b.take 1)) t
        else if r.kind = 0x0E ∧ 1 ≤ b.length then takeDoffEnd (decide (number (b.take 1) = 0)) t
        else t
      else t
    let samples := reports.filter (fun r => decide (r.kind = 0x08))
    let others := reports.filter (fun r => decide (¬ r.kind = 0x08))
    takeMessage a m s = reports.foldl (fun t r => forwardReport a r t)
      ((samples ++ others).foldl hand
        { s with
          lc.stations := s.lc.stations.map (fun e =>
            if e.address = a then
              { e with found := true, silence := 0, lastHeard := some s.dc.runClock, lastReport := some m.reportNumber }
            else e) })) ∧
  (∀ (s : State) (a : Nat) (m : LineMessage), (∃ e ∈ s.lc.stations, e.address = a) → (s.station a).found = false →
    ¬ (s.station a).lastReport = some m.reportNumber →
    let t := takeMessage a m s
    let found : State :=
      { s with
        lc.stations := s.lc.stations.map (fun e =>
          if e.address = a then
            { e with found := true, silence := 0, lastHeard := some s.dc.runClock, lastReport := some m.reportNumber }
          else e) }
    (m.payload = [] → m.present = false →
      ((1 ≤ a ∧ a ≤ 80) ∨ a = 99 → t = found) ∧ (a = 96 → t = { found with dc.refound := true })) ∧
    (∀ side other, a = carriageAddress side → ¬ other = side → m.payload = [] →
      m.present = false ∨ m.mill = false →
      (¬ ((s.carriage side).state = .out ∧ (s.carriage side).awaiting = true) → t = found) ∧
      ((s.carriage side).state = .out → (s.carriage side).awaiting = true → ¬ s.df.state = .spinning →
        (t.carriage side).state = .parked ∧ (t.carriage side).awaiting = false ∧
        (t.carriage side).slot = (s.carriage side).slot ∧ t.pd.lists = s.pd.lists ∧ t.spindles = s.spindles ∧
        (s.df.state = .due → (s.carriage other).away = true → t.df.state = .stopping) ∧
        (¬ (s.df.state = .due ∧ (s.carriage other).away = true) → t.df = s.df)) ∧
      ((s.carriage side).state = .out → (s.carriage side).awaiting = true → s.df.state = .spinning →
        (t.carriage side).awaiting = false ∧ (∀ e ∈ t.list side, e.passedOver = false) ∧ t.df = s.df ∧
        ((t.carriage side).state =
          if (∃ e ∈ s.list side, e.status = .waiting) ∧ s.si.gate = .opened ∧ s.pd.globalHold = false then .assigned
          else .idle) ∧
        (∀ o, (t.carriage side).slot = some o → (s.carriage side).slot = none → o.collected = false))) ∧
    (∀ side number code, ∀ position : List Byte, a = carriageAddress side → number < 256 → code < 256 →
      position.length = 2 →
      m.payload = 0x0B#8 :: 0x04#8 :: BitVec.ofNat 8 number :: BitVec.ofNat 8 code :: position →
      (t.carriage side).stale = min 65535 ((s.carriage side).stale + 1) ∧
      (t.carriage side).position = (s.carriage side).position ∧
      ((s.carriage side).state = .out → (s.carriage side).awaiting = true → s.df.state = .spinning →
        (t.carriage side).state = .idle ∨ (t.carriage side).state = .assigned)))

/-- R104, R119, R185: a waiting HALT goes out to address 127 when no visit is in progress; every carriage not OUT is then PARKED
where it stands with its slot empty, and a spindle it was serving is DOWN again. The MODEL'S reading (log 41): the HALT's report number
byte is 0. The MODEL'S own mark of a message that goes before a HALT is cleared with it (log 36). -/
def Obligations.HaltParksTheCarriagesWhereTheyStand : Prop :=
  ∀ s : State, s.powered = true → s.lc.haltWaiting = true → s.lc.visit = none →
    ∃ t, exec .halt s = .next t ∧
      t.lc = { s.lc with
        haltWaiting := false
        messageFirst := false
        lineOut := some { dest := 127, src := 0, kind := 0x03, orderKind := 0, orderNumber := 0, reportNumber := 0,
                          mill := false, present := false, payload := [] } } ∧
      (∀ side, ¬ (s.carriage side).state = .out →
        (t.carriage side).state = .parked ∧ (t.carriage side).slot = none ∧
        (t.carriage side).timer.running = false ∧ (t.carriage side).position = (s.carriage side).position ∧
        (t.carriage side).direction = (s.carriage side).direction) ∧
      (∀ side, (s.carriage side).state = .out → (t.carriage side).state = .out ∧
        (t.carriage side).slot = (s.carriage side).slot ∧ (t.carriage side).position = (s.carriage side).position) ∧
      (∀ side n, ¬ (s.carriage side).state = .out → s.servicedBy side = some n → 1 ≤ n → n ≤ s.spindles.length →
        (t.spindle n) = { s.spindle n with state := .down, listStatus := .waiting }) ∧
      (t.df.state =
        if s.df.state = .due ∧ ¬ ((s.carriage .A).state = .out ∧ (s.carriage .B).state = .out) then .stopping
        else s.df.state) ∧
      t.dc = s.dc ∧ t.si = s.si ∧ t.rm = s.rm ∧ t.sa = s.sa ∧ t.ps = s.ps ∧ t.ml = s.ml ∧ t.events = s.events

/-! ### The mill link -/

/-- R195, R203, R210: the two ports. The UP arbiter: with one queue holding frames its oldest begins; with both, the oldest of the
queue other than last served. A frame that leaves the own queue lets the pending class with the lowest number in. Nothing begins
while the transmitter sends or the link is down; a transmission ends with its last byte. The link's loss leaves the queues; whether a
frame in transmission stays in the transmitter is left open by the spec (log 5), and the statement holds for either. The DOWN port:
the oldest through-down frame begins when the transmitter is idle and the next part is connected; when the link goes, every queued
frame and the one in transmission are lost and counted. -/
def Obligations.ThePortsSendTheirQueues : Prop :=
  (∀ (s : State) (f : RawFrame) (rest : List RawFrame), s.powered = true → s.ml.upTx = none → s.ml.upLink = true →
    s.ml.throughUp = f :: rest → (s.ml.own = [] ∨ s.ml.lastServed = .own) →
    exec .upTransmitBegin s = .next
      { s with ml.throughUp := rest, ml.upTx := some (.through f), ml.lastServed := .through }) ∧
  (∀ (s : State) (f : OwnFrame) (rest : List OwnFrame), s.powered = true → s.ml.upTx = none → s.ml.upLink = true →
    s.ml.own = f :: rest → (s.ml.throughUp = [] ∨ s.ml.lastServed = .through) →
    (∀ c < 16, (s.event c).pending = false) →
    exec .upTransmitBegin s = .next
      { s with ml.own := rest, ml.upTx := some (.own f), ml.lastServed := .own }) ∧
  (∀ (s : State) (f : OwnFrame) (rest : List OwnFrame) (c : Nat), s.powered = true → s.ml.upTx = none →
    s.ml.upLink = true → s.ml.own = f :: rest → (s.ml.throughUp = [] ∨ s.ml.lastServed = .through) →
    c < 16 → (s.event c).pending = true → (∀ b < c, (s.event b).pending = false) →
    ∃ t, exec .upTransmitBegin s = .next t ∧ t.ml.upTx = some (.own f) ∧ t.ml.lastServed = .own ∧
      t.ml.own = rest ++
        [{ dest := 0, src := s.frameNumber, seq := s.ml.ownSeq,
           body := .notice c (s.event c).flag (s.event c).count (s.event c).detail s.dc.runClock }] ∧
      t.ml.ownSeq = (s.ml.ownSeq + 1) % 65536 ∧
      t.event c = { s.event c with pending := false, given := true } ∧ (∀ b, ¬ b = c → t.event b = s.event b) ∧
      t = { s with ml := t.ml, events := t.events }) ∧
  (∀ s : State, s.powered = true →
    (s.ml.upTx.isSome = true ∨ s.ml.upLink = false ∨ (s.ml.throughUp = [] ∧ s.ml.own = [])) →
    exec .upTransmitBegin s = .next s) ∧
  (∀ s : State, s.powered = true → s.ml.upLink = true →
    exec .upTransmitEnd s = .next { s with ml.upTx := none }) ∧
  (∀ s : State, s.powered = true → ∃ t kept, exec .upLinkLost s = .next t ∧ (kept = s.ml.upTx ∨ kept = none) ∧
    t = { s with ml.upLink := false, ml.upTx := kept, freeCount := t.freeCount }) ∧
  (∀ s : State, s.powered = true → exec .upLinkRestored s = .next { s with ml.upLink := true }) ∧
  (∀ (s : State) (f : RawFrame) (rest : List RawFrame), s.powered = true → s.ml.downTx = none →
    s.ml.downConnected = true → s.ml.throughDown = f :: rest →
    exec .downTransmitBegin s = .next { s with ml.throughDown := rest, ml.downTx := some f }) ∧
  (∀ s : State, s.powered = true →
    (s.ml.downTx.isSome = true ∨ s.ml.downConnected = false ∨ s.ml.throughDown = []) →
    exec .downTransmitBegin s = .next s) ∧
  (∀ s : State, s.powered = true → exec .downTransmitEnd s = .next { s with ml.downTx := none }) ∧
  (∀ s : State, s.powered = true → exec .downConnected s = .next { s with ml.downConnected := true }) ∧
  (∀ s : State, s.powered = true → exec .downDisconnected s = .next
    { s with
      ml.downConnected := false
      ml.throughDown := []
      ml.downTx := none
      ml.counts.throughDownDiscarded :=
        min 65535 (s.ml.counts.throughDownDiscarded + s.ml.throughDown.length +
          (if s.ml.downTx.isSome then 1 else 0)) })

/-- R193, R194, R197, R214: what becomes of an arriving frame that is no request: a failed one is counted at its port, bytes without
an opening mark are skipped, one for another part joins its through queue or is counted as discarded, one addressed here or to the
broadcast that is no REQUEST and no STATION_ORDER is counted as misdirected, and a request whose code names none is answered
UNKNOWN. -/
def Obligations.ArrivingFramesAreRoutedOrCounted : Prop :=
  (∀ (s : State) (port : Port) (bytes : List Byte), s.powered = true → 0xC3#8 ∉ bytes →
    exec (.badFrame port bytes) s = .next s) ∧
  (∀ (s : State) (bytes : List Byte), s.powered = true → 0xC3#8 ∈ bytes → parseMillFrame bytes = none →
    exec (.badFrame .up bytes) s = .next { s with ml.counts.upBad := min 65535 (s.ml.counts.upBad + 1) } ∧
    exec (.badFrame .down bytes) s = .next { s with ml.counts.downBad := min 65535 (s.ml.counts.downBad + 1) }) ∧
  (∀ (s : State) (f : RawFrame), s.powered = true → ¬ f.dest = s.frameNumber → ¬ f.dest = 255 →
    exec (.throughDownFrame f) s = .next
      (if s.ml.downConnected = true ∧ s.ml.throughDown.length < 8 then
        { s with ml.throughDown := s.ml.throughDown ++ [f] }
      else
        { s with ml.counts.throughDownDiscarded := min 65535 (s.ml.counts.throughDownDiscarded + 1) })) ∧
  (∀ (s : State) (f : RawFrame), s.powered = true →
    exec (.throughUpFrame f) s = .next
      (if s.ml.throughUp.length < 8 then { s with ml.throughUp := s.ml.throughUp ++ [f] }
      else { s with ml.counts.throughUpDiscarded := min 65535 (s.ml.counts.throughUpDiscarded + 1) })) ∧
  (∀ (s : State) (f : RawFrame), s.powered = true → f.dest = s.frameNumber → ¬ f.type = 1 → ¬ f.type = 4 →
    exec (.misdirectedFrame f) s = .next
      { s with ml.counts.misdirected := min 65535 (s.ml.counts.misdirected + 1) }) ∧
  (∀ (s : State) (f : RawFrame), s.powered = true → ¬ f.dest = s.frameNumber → f.dest = 255 → ¬ f.type = 1 →
    ¬ f.type = 4 → s.ml.downConnected = true → s.ml.throughDown.length < 8 →
    exec (.misdirectedFrame f) s = .next
      { s with
        ml.throughDown := s.ml.throughDown ++ [f]
        ml.counts.misdirected := min 65535 (s.ml.counts.misdirected + 1) }) ∧
  (∀ (s : State) (h : ReqFrame) (code : Nat), s.takes h → requestCodes.contains code = false →
    exec (.unknownRequest h code) s = .next (s.answered h code .unknown .empty))

/-- R194, R196, R197: every request and station order alike: one for another part joins the through-down queue, or is counted as
discarded there, and is not handled; one that reaches this part while the own queue holds 16 frames is discarded unprocessed and
counted, and a broadcast's copy still goes on, or is counted as discarded where the through-down queue has no room for it. A request
taken with a payload too short for the arguments its rule requires is answered ARGUMENT and does nothing. The MODEL'S CHOICE
(log 13): this ARGUMENT goes before every other refusal, BUSY in DOFFING or during a store among them. -/
def Obligations.RequestsPassOnAreDiscardedOrCutShort : Prop :=
  (∀ (i : Instr) (h : ReqFrame) (f : RawFrame) (s : State), linkFrame? i = some (h, f) → s.powered = true →
    (¬ h.dest = s.frameNumber → ¬ h.dest = 255 →
      exec i s = .next
        (if s.ml.downConnected = true ∧ s.ml.throughDown.length < 8 then
          { s with ml.throughDown := s.ml.throughDown ++ [f] }
        else
          { s with ml.counts.throughDownDiscarded := min 65535 (s.ml.counts.throughDownDiscarded + 1) })) ∧
    (h.dest = s.frameNumber → 16 ≤ s.ml.own.length →
      exec i s = .next
        { s with ml.counts.requestsDiscarded := min 65535 (s.ml.counts.requestsDiscarded + 1) }) ∧
    (¬ h.dest = s.frameNumber → h.dest = 255 → 16 ≤ s.ml.own.length → s.ml.downConnected = true →
      s.ml.throughDown.length < 8 →
      exec i s = .next
        { s with
          ml.throughDown := s.ml.throughDown ++ [f]
          ml.counts.requestsDiscarded := min 65535 (s.ml.counts.requestsDiscarded + 1) }) ∧
    (¬ h.dest = s.frameNumber → h.dest = 255 → 16 ≤ s.ml.own.length →
      s.ml.downConnected = false ∨ 8 ≤ s.ml.throughDown.length →
      exec i s = .next
        { s with
          ml.counts := { s.ml.counts with
            throughDownDiscarded := min 65535 (s.ml.counts.throughDownDiscarded + 1)
            requestsDiscarded := min 65535 (s.ml.counts.requestsDiscarded + 1) } })) ∧
  (∀ (i : Instr) (h : ReqFrame) (code : Nat) (s : State), argumentCode? i = some (h, code) → s.takes h → h.short = true →
    exec i s = .next (s.answered h code .argument .empty))

/-- R203: raising a class: the count rises and saturates, the detail is written; a clear flag is set, with a NOTICE queued where the
mask is open and the own queue has room, and notice pending set where it has none; a set flag brings nothing more. -/
def Obligations.RaisingAClassNoticesItOnce : Prop :=
  ∀ (id : EventId) (detail : Nat) (s : State), s.events.length = 16 →
    let c := id.num
    let e := s.event c
    let t := raiseEvent id detail s
    (t.event c).flag = true ∧ (t.event c).count = min 255 (e.count + 1) ∧ (t.event c).detail = detail ∧
    (t.event c).mask = e.mask ∧ (∀ b, ¬ b = c → t.event b = s.event b) ∧
    (e.flag = true ∨ e.mask = false → t.ml = s.ml ∧ (t.event c).pending = e.pending ∧ (t.event c).given = e.given) ∧
    (e.flag = false → e.mask = true → s.ml.own.length < 16 →
      t.ml.own = s.ml.own ++
        [{ dest := 0, src := s.frameNumber, seq := s.ml.ownSeq,
           body := .notice c true (min 255 (e.count + 1)) detail s.dc.runClock }] ∧
      t.ml.ownSeq = (s.ml.ownSeq + 1) % 65536 ∧ (t.event c).pending = false ∧ (t.event c).given = true) ∧
    (e.flag = false → e.mask = true → ¬ s.ml.own.length < 16 →
      t.ml = s.ml ∧ (t.event c).pending = true ∧ (t.event c).given = e.given) ∧
    t = { s with ml := t.ml, events := t.events }

/-! ### Reads -/

/-- R22, R54, R55, R60: READ_SPINDLES answers with `count` records of the start spindle's segment, from the start spindle to the segment's end and
then on from its first, each as the table and the arithmetic give it when the request is taken; a start out of range or VACANT and a
count outside 1..24 are refused with ARGUMENT. Nothing else changes. -/
def Obligations.ReadSpindlesReturnsTheSegmentFromTheStart : Prop :=
  ∀ (h : ReqFrame) (start count : Nat) (s : State), s.takes h → h.short = false →
    (1 ≤ start → start ≤ 1920 → ¬ (s.spindle start).state = .vacant → 1 ≤ count → count ≤ 24 →
      ∃ rs : List SpindleView,
        exec (.readSpindles h start count) s = .next (s.answered h 0x10 .done (.spindles rs)) ∧ rs.length = count ∧
        ∀ i v, rs[i]? = some v →
          let p := s.spindle v.number
          let openSinceMark : Nat → Nat := fun mark =>
            if p.state.isDown = true then openSince p.breakMark s.dc.frameLength mark else 0
          v.number = (if start + i ≤ 24 * segmentOf start then start + i else start + i - 24) ∧
          v.state = p.state ∧ v.held = p.held ∧ v.slow = p.slow ∧ v.lotReported = p.lotReported ∧
          v.latched = (s.cell v.number).latched ∧ v.attempts = p.attempts ∧ v.breaks = p.breaks ∧
          v.listStatus = p.listStatus ∧ v.breakMark = p.breakMark ∧
          v.produced = s.dc.frameLength - s.sa.mark - p.lostShift - openSinceMark s.sa.mark ∧
          v.cop = s.dc.frameLength - s.df.mark - p.lostDoff - openSinceMark s.df.mark ∧
          v.fillMass = p.fill.map (fun f => f.mass) ∧
          v.remaining = p.fill.map (fun f =>
            f.mass * 1000 -
              (s.dc.frameLength - f.mark - p.lostFill - openSinceMark f.mark) * s.ml.recipe.countTex10 *
                (1000 + s.ml.recipe.wastePm) / 10000000)) ∧
    (¬ (1 ≤ start ∧ start ≤ 1920 ∧ ¬ (s.spindle start).state = .vacant ∧ 1 ≤ count ∧ count ≤ 24) →
      exec (.readSpindles h start count) s = .next (s.answered h 0x10 .argument .empty))

/-- R43, R63, R88, R108, R132, R140, R153, R179, R189, R198, R201, R205, R207, R211: the reads of the blocks: each is answered with
what its rule lists, as it stands when the request is taken, and changes nothing but the mill link's own queue, reset arm and a
broadcast's copy; STATUS and READ_STATIONS with the clear mark then set the port counts, or the entries' error counts, to 0. A
READ_ROVING is such a read once every pass up to the last that a FORECAST_NOW before it started has been taken (R152; log 18), and
returns the queue as it stands also before the first full pass after a reset (the MODEL'S reading, log 44). READ_DOFF returns the whole
of the Doff Controller's state, the two next numbers with it, which R132's list does not name (the MODEL'S CHOICE, log 43). -/
def Obligations.ReadsOfTheBlocksChangeNothing : Prop :=
  ∀ (h : ReqFrame) (s : State), s.takes h →
    (∀ k, h.short = false → 1 ≤ k → k ≤ 80 → s.fitted k = true →
      exec (.readSegment h k) s = .next (s.answered h 0x18 .done (.segment
        { segment := k, found := (s.station k).found, gate := s.si.gate,
          settleLeft := if s.si.gate = .settling then some s.si.settle.left else none,
          cells := (segmentSpindles k).map s.cell, counts := s.counts k }))) ∧
    (∀ k, h.short = false → ¬ (1 ≤ k ∧ k ≤ 80 ∧ s.fitted k = true) →
      exec (.readSegment h k) s = .next (s.answered h 0x18 .argument .empty)) ∧
    exec (.readDelivery h) s = .next (s.answered h 0x1C .done (.delivery
      { frameLength := s.dc.frameLength, rem := s.dc.rem, baseline := s.dc.baseline, drive := s.dc.drive,
        found := (s.station 96).found, runClock := s.dc.runClock, doffMark := s.df.mark, shiftMark := s.sa.mark })) ∧
    (∀ side, h.short = false → ∃ u g : List Nat,
      exec (.readList h (some side)) s = .next (s.answered h 0x25 .done (.list
        { side := side, entries := s.list side, unlisted := u.length, unlistedHeld := g.length,
          globalHold := s.pd.globalHold, runClock := s.dc.runClock })) ∧
      u.Nodup ∧ g.Nodup ∧
      (∀ n, n ∈ u ↔ 1 ≤ n ∧ n ≤ 1920 ∧ sideOf n = side ∧ (s.spindle n).listStatus = .unlisted) ∧
      (∀ n, n ∈ g ↔ n ∈ u ∧ (s.spindle n).held = true)) ∧
    (∀ side, h.short = false →
      exec (.readCarriage h (some side)) s = .next (s.answered h 0x2A .done (.carriage
        { side := side, carriage := s.carriage side, found := (s.station (carriageAddress side)).found }))) ∧
    (h.short = false →
      exec (.readList h none) s = .next (s.answered h 0x25 .argument .empty) ∧
      exec (.readCarriage h none) s = .next (s.answered h 0x2A .argument .empty)) ∧
    exec (.readDoff h) s = .next (s.answered h 0x39 .done (.doff
      { control := s.df, span := s.dc.frameLength - s.df.mark, doffTarget := s.ml.recipe.doffTarget,
        doffOverrun := s.ml.recipe.doffOverrun, stopSeconds := s.df.stopTime.map (fun x => s.dc.runClock - x) })) ∧
    exec (.readLots h) s = .next (s.answered h 0x41 .done (.lots s.rm.lots)) ∧
    (s.rm.asked = 0 → exec (.readRoving h) s = .next (s.answered h 0x43 .done (.roving
      { members := s.rm.queue.map (fun k => (k, s.forecast k)), leadTime := s.ml.recipe.leadTime,
        lastFullPass := s.rm.lastFullPass, period := s.rm.period, periodRunning := s.rm.periodRunning }))) ∧
    exec (.readPoll h) s = .next (s.answered h 0x51 .done (.poll s.lc.schedule s.lc.cursor)) ∧
    exec (.readRecipe h) s = .next (s.answered h 0x03 .done (.recipe s.ml.recipe)) ∧
    exec (.readPass h) s = .next (s.answered h 0x05 .done (.pass s.ml.passTable)) ∧
    exec (.readEvents h) s = .next (s.answered h 0x07 .done (.events s.events)) ∧
    (s.ps.busy = false →
      exec (.readProfile h) s = .next (s.answered h 0x0B .done (.profile s.ps.pendingCopy s.ps.inForce s.ps.source))) ∧
    (let status : ReplyData := .status
      { frameNumber := s.ps.inForce.frameNumber, lastReset := s.ml.lastReset, source := s.ps.source,
        storeBusy := s.ps.busy, runClock := s.dc.runClock, doffState := s.df.state,
        carriageA := (s.carriage .A).state, carriageB := (s.carriage .B).state, counts := s.ml.counts,
        throughDown := s.ml.throughDown.length, throughUp := s.ml.throughUp.length, own := s.ml.own.length,
        downConnected := s.ml.downConnected }
    (h.dest = s.frameNumber →
      exec (.status h false) s = .next (s.answered h 0x01 .done status) ∧
      exec (.status h true) s = .next
        { s.answered h 0x01 .done status with
          ml.counts := { upBad := 0, downBad := 0, throughDownDiscarded := 0, throughUpDiscarded := 0,
                         requestsDiscarded := 0, reportsDropped := 0, misdirected := 0 } }) ∧
    ∃ v : List StationView,
      exec (.readStations h false) s = .next (s.answered h 0x52 .done (.stations v)) ∧
      exec (.readStations h true) s = .next
        { s.answered h 0x52 .done (.stations v) with
          lc.stations := s.lc.stations.map (fun e => { e with errors := 0 }) } ∧
      v.length = s.lc.stations.length ∧
      ∀ (i : Nat) (e : Station), s.lc.stations[i]? = some e → ∃ w : StationView, v[i]? = some w ∧
        w.address = e.address ∧ w.found = e.found ∧ w.silence = e.silence ∧ w.errors = e.errors ∧
        w.lastHeard = e.lastHeard ∧ w.lastReport = e.lastReport ∧
        w.mailbox = e.mailbox.map (fun o => (o.kind, o.number)) ∧ w.mailboxNext = e.mailboxNext ∧
        w.overrun = e.overrun ∧
        w.fitted = (if 1 ≤ e.address ∧ e.address ≤ 80 then s.fitted e.address else true) ∧
        (w.kind = .segment ↔ 1 ≤ e.address ∧ e.address ≤ 80) ∧ (w.kind = .drive ↔ e.address = 96) ∧
        (w.kind = .carriage ↔ e.address = 97 ∨ e.address = 98) ∧ (w.kind = .doffer ↔ e.address = 99))

/-! ### Spindles in and out of service -/

/-- R19, R96, R130: SERVICE_OUT of one counted spindle: OFFLINE with its break mark kept or taken, slow and attempts cleared, its entry
or UNLISTED status gone (a hold pending becoming held), a PIECE for it called off with a CANCEL; the others change in dispatch only.
An OFFLINE spindle is left unchanged. BUSY in DOFFING; ARGUMENT for a spindle out of range or VACANT. The MODEL'S CHOICE (log 13):
in DOFFING such a spindle is refused with BUSY too. -/
def Obligations.ServiceOutTakesASpindleOffline : Prop :=
  ∀ (h : ReqFrame) (n : Nat) (s : State), s.takes h → h.short = false →
    (s.df.state = .doffing → exec (.serviceOut h n) s = .next (s.answered h 0x11 .busy .empty)) ∧
    (¬ s.df.state = .doffing → ¬ (1 ≤ n ∧ n ≤ 1920 ∧ ¬ (s.spindle n).state = .vacant) →
      exec (.serviceOut h n) s = .next (s.answered h 0x11 .argument .empty)) ∧
    (¬ s.df.state = .doffing → 1 ≤ n → n ≤ 1920 → (s.spindle n).state = .offline → s.listed n = false →
      exec (.serviceOut h n) s = .next (s.answered h 0x11 .done .empty)) ∧
    (¬ s.df.state = .doffing → 1 ≤ n → n ≤ 1920 → ¬ (s.spindle n).state = .vacant → ¬ (s.spindle n).state = .offline →
      ∃ t, exec (.serviceOut h n) s = .next t ∧
        t.spindle n =
          { s.spindle n with
            state := .offline, slow := false, attempts := 0, listStatus := .none,
            held := (s.spindle n).held || (s.entry? n).any (fun e => e.holdPending),
            breakMark := some ((s.spindle n).breakMark.getD s.dc.frameLength) } ∧
        t.listed n = false ∧
        (s.servicedBy (sideOf n) = some n →
          (t.carriage (sideOf n)).state = .working ∧
          (t.carriage (sideOf n)).slot =
            some { kind := .cancel, number := (s.carriage (sideOf n)).nextNumber, collected := false }) ∧
        (∀ m, ¬ m = n → (s.spindle m).sameButDispatch (t.spindle m)) ∧
        t = { s.answered h 0x11 .done .empty with spindles := t.spindles, pd := t.pd })

/-- R20: SERVICE_OUT of a fitted segment: every spindle of it not already OFFLINE becomes OFFLINE as in the single form, and no entry
of the segment is left. BUSY in DOFFING; ARGUMENT for a segment out of range or not fitted. The MODEL'S CHOICE (log 13): in DOFFING
such a segment is refused with BUSY too. -/
def Obligations.ServiceOutTakesASegmentOffline : Prop :=
  ∀ (h : ReqFrame) (k : Nat) (s : State), s.takes h → h.short = false →
    (s.df.state = .doffing → exec (.serviceOutSegment h k) s = .next (s.answered h 0x11 .busy .empty)) ∧
    (¬ s.df.state = .doffing → ¬ (1 ≤ k ∧ k ≤ 80 ∧ s.fitted k = true) →
      exec (.serviceOutSegment h k) s = .next (s.answered h 0x11 .argument .empty)) ∧
    (¬ s.df.state = .doffing → 1 ≤ k → k ≤ 80 → s.fitted k = true →
      ∃ t, exec (.serviceOutSegment h k) s = .next t ∧
        (∀ n ∈ segmentSpindles k, ¬ (s.spindle n).state = .vacant → ¬ (s.spindle n).state = .offline →
          t.spindle n =
            { s.spindle n with
              state := .offline, slow := false, attempts := 0, listStatus := .none,
              held := (s.spindle n).held || (s.entry? n).any (fun e => e.holdPending),
              breakMark := some ((s.spindle n).breakMark.getD s.dc.frameLength) } ∧
          t.listed n = false ∧
          (s.servicedBy (sideOf n) = some n →
            (t.carriage (sideOf n)).state = .working ∧
            (t.carriage (sideOf n)).slot =
              some { kind := .cancel, number := (s.carriage (sideOf n)).nextNumber, collected := false })) ∧
        (∀ n ∈ segmentSpindles k, (s.spindle n).state = .offline → s.listed n = false →
          t.spindle n = s.spindle n) ∧
        (∀ m, m ∉ segmentSpindles k → (s.spindle m).sameButDispatch (t.spindle m)) ∧
        t = { s.answered h 0x11 .done .empty with spindles := t.spindles, pd := t.pd })

/-- R21: SERVICE_IN: an OFFLINE spindle becomes UNSEEN with its break mark kept and its intake cell cleared; in the single form a
spindle that is not OFFLINE is refused with STATE, in the segment form it is left unchanged. BUSY in DOFFING; ARGUMENT for a spindle
or segment that may not be named. The MODEL'S CHOICE (log 13): in DOFFING such a target is refused with BUSY too. -/
def Obligations.ServiceInBringsOfflineSpindlesBack : Prop :=
  ∀ (h : ReqFrame) (s : State), s.takes h → h.short = false →
    (∀ target, s.df.state = .doffing → exec (.serviceIn h target) s = .next (s.answered h 0x12 .busy .empty)) ∧
    (∀ n, ¬ s.df.state = .doffing → ¬ (1 ≤ n ∧ n ≤ 1920 ∧ ¬ (s.spindle n).state = .vacant) →
      exec (.serviceIn h (.spindle n)) s = .next (s.answered h 0x12 .argument .empty)) ∧
    (∀ k, ¬ s.df.state = .doffing → ¬ (1 ≤ k ∧ k ≤ 80 ∧ s.fitted k = true) →
      exec (.serviceIn h (.segment k)) s = .next (s.answered h 0x12 .argument .empty)) ∧
    (∀ n, ¬ s.df.state = .doffing → 1 ≤ n → n ≤ 1920 → ¬ (s.spindle n).state = .vacant →
      ¬ (s.spindle n).state = .offline →
      exec (.serviceIn h (.spindle n)) s = .next (s.answered h 0x12 .state .empty)) ∧
    (∀ target, ¬ s.df.state = .doffing →
      (match target with
        | .spindle n => 1 ≤ n ∧ n ≤ 1920 ∧ (s.spindle n).state = .offline
        | .segment k => 1 ≤ k ∧ k ≤ 80 ∧ s.fitted k = true) →
      ∃ t, exec (.serviceIn h target) s = .next t ∧
        (∀ m, m ∈ targetSpindles target ∧ (s.spindle m).state = .offline →
          t.spindle m = { s.spindle m with state := .unseen } ∧ t.cell m = { latched := none, candidate := none }) ∧
        (∀ m, ¬ (m ∈ targetSpindles target ∧ (s.spindle m).state = .offline) →
          t.spindle m = s.spindle m ∧ t.cell m = s.cell m) ∧
        t = { s.answered h 0x12 .done .empty with spindles := t.spindles, si := { s.si with cells := t.si.cells } })

/-! ### Sense Intake -/

/-- R32, R33, R35, R37: a SAMPLE of 24 values. With the gate not OPEN nothing is compared and the segment's candidates are left clear.
With it OPEN every value is compared with its cell: UNREAD is counted and changes nothing, the latched value clears the candidate and
counts a flicker where there was one, the candidate's value is confirmed, any other becomes the candidate; the confirmed changes are
then applied whole in ascending spindle number. -/
def Obligations.SamplesConfirmOnTheSecondAgreeingValue : Prop :=
  ∀ (k : Nat) (values : List (Option Sense)) (s : State), 1 ≤ k → k ≤ 80 → values.length = 24 →
    s.si.cells.length = 1920 → s.si.segments.length = 80 →
    let n : Nat → Nat := fun i => 24 * (k - 1) + 1 + i
    let t := takeSample k values s
    (¬ s.si.gate = .opened →
      t = { s with si := t.si } ∧ t.counts k = { s.counts k with lastHeard := some s.dc.runClock } ∧
      (∀ i < 24, t.cell (n i) = { latched := (s.cell (n i)).latched, candidate := none }) ∧
      (∀ m, m ∉ segmentSpindles k → t.cell m = s.cell m) ∧ (∀ j, ¬ j = k → t.counts j = s.counts j) ∧
      t.si.gate = s.si.gate ∧ t.si.settle = s.si.settle) ∧
    (s.si.gate = .opened →
      (t.counts k).samples = min 4294967295 ((s.counts k).samples + 1) ∧
      (t.counts k).lastHeard = some s.dc.runClock ∧
      (t.counts k).unread = min 4294967295 ((s.counts k).unread + values.countP (fun v => v.isNone)) ∧
      (t.counts k).flicker = min 4294967295 ((s.counts k).flicker + (List.range 24).countP (fun i =>
        match values[i]? with
        | some (some x) => (s.cell (n i)).latched == some x && (s.cell (n i)).candidate.isSome
        | some none => false
        | none => false)) ∧
      (∀ i < 24, ∀ v, values[i]? = some v →
        t.cell (n i) =
          match v with
          | none => s.cell (n i)
          | some x =>
            if (s.cell (n i)).latched = some x then { latched := some x, candidate := none }
            else if (s.cell (n i)).candidate = some x then { latched := some x, candidate := none }
            else { latched := (s.cell (n i)).latched, candidate := some x }) ∧
      (∀ m, m ∉ segmentSpindles k → t.cell m = s.cell m) ∧ (∀ j, ¬ j = k → t.counts j = s.counts j) ∧
      (∃ changes : List (Nat × Sense),
        (∀ m x, (m, x) ∈ changes ↔
          ∃ i < 24, m = n i ∧ values[i]? = some (some x) ∧ (s.cell m).candidate = some x ∧
            ¬ (s.cell m).latched = some x) ∧
        (changes.map (fun c => c.1)).Pairwise (· < ·) ∧
        t = changes.foldl (fun u c => confirmChange c.1 c.2 u) { s with si := t.si }))

/-- R9, R13 to R18: a confirmed sense change on a spindle, by the state of its record: a break, a first end down, a spindle that spins
again with its down interval closed against the three marks and the piecing credited where a carriage was at work, a spindle without
roving, and no change at all. The other spindles change in dispatch only. -/
def Obligations.ConfirmedChangesMoveTheRecord : Prop :=
  ∀ (n : Nat) (s : State), 1 ≤ n → n ≤ s.spindles.length →
    let p := s.spindle n
    let len := s.dc.frameLength
    let heldAfter := p.held || (s.entry? n).any (fun e => e.holdPending)
    let side := sideOf n
    let piecing := p.state = .servicing ∨ p.state = .verifying
    (∀ v, p.state = .offline ∨ p.state = .vacant → confirmChange n v s = s) ∧
    (∀ v, v = .spinning ∨ v = .lagging →
      (p.state = .spinning →
        (confirmChange n v s).spindle n = { p with slow := decide (v = .lagging) } ∧
        confirmChange n v s = { s with spindles := (confirmChange n v s).spindles }) ∧
      (¬ p.state = .spinning → ¬ p.state = .offline → ¬ p.state = .vacant →
        let t := confirmChange n v s
        let lost : Nat → Nat → Nat := fun sofar mark => min 4294967295 (sofar + openSince p.breakMark len mark)
        t.listed n = false ∧
        (p.breakMark.isSome = true → t.spindle n =
          { p with
            state := .spinning, slow := decide (v = .lagging), attempts := 0, breakMark := none, held := heldAfter,
            listStatus := .none, lostShift := lost p.lostShift s.sa.mark, lostDoff := lost p.lostDoff s.df.mark,
            lostFill := match p.fill with | some f => lost p.lostFill f.mark | none => p.lostFill }) ∧
        (piecing → (t.carriage side).pieced = min 4294967295 ((s.carriage side).pieced + 1) ∧
          t.sa.counters =
            match side with
            | .A => { s.sa.counters with piecedA := min 4294967295 (s.sa.counters.piecedA + 1) }
            | .B => { s.sa.counters with piecedB := min 4294967295 (s.sa.counters.piecedB + 1) }) ∧
        (¬ piecing → (t.carriage side).pieced = (s.carriage side).pieced ∧ t.sa = s.sa))) ∧
    (let t := confirmChange n .endDown s;
      (p.state = .down ∨ p.state = .servicing ∨ p.state = .verifying ∨ p.state = .rogue → t = s) ∧
      (p.state = .spinning →
        ({ p with slow := false, breaks := min 255 (p.breaks + 1), breakMark := some len }).sameButDispatch (t.spindle n) ∧
        t.sa = { s.sa with counters.breaks := min 4294967295 (s.sa.counters.breaks + 1) }) ∧
      (p.state = .unseen ∨ p.state = .starved → p.sameButDispatch (t.spindle n) ∧ t.sa = s.sa) ∧
      (p.state = .spinning ∨ p.state = .unseen ∨ p.state = .starved → s.listed n = false →
        (p.held = true ∨ 48 ≤ (s.list side).length →
          (t.spindle n).state = .down ∧ (t.spindle n).listStatus = .unlisted ∧ t.listed n = false) ∧
        (p.held = false → (s.list side).length < 48 →
          t.listed n = true ∧
          (((t.spindle n).state = .down ∧ (t.spindle n).listStatus = .waiting) ∨
            ((t.spindle n).state = .servicing ∧ (t.spindle n).listStatus = .assigned))))) ∧
    (let t := confirmChange n .noRoving s;
      (p.state = .starved ∨ p.state = .rogue → t = s) ∧
      (p.state = .spinning ∨ p.state = .down ∨ p.state = .unseen ∨ p.state = .servicing ∨ p.state = .verifying →
        t.spindle n =
          { p with
            state := .starved, slow := false, breakMark := some (p.breakMark.getD len), held := heldAfter,
            listStatus := .none } ∧
        t.listed n = false ∧ t.sa = s.sa ∧
        (s.servicedBy side = some n →
          (t.carriage side).state = .working ∧
          (t.carriage side).slot =
            some { kind := .cancel, number := (s.carriage side).nextNumber, collected := false }))) ∧
    (∀ v m, ¬ m = n → (s.spindle m).sameButDispatch ((confirmChange n v s).spindle m))

/-! ### Holds -/

/-- R72, R96, R130: HOLD on one counted spindle: a held one is left unchanged; a DOWN or SERVICING one is held, DOWN and UNLISTED
with no entry, its PIECE called off with a CANCEL; a VERIFYING one has hold pending on its entry; any other is held where it is. The
MODEL'S CHOICE (log 13): in DOFFING a spindle out of range or VACANT is refused with BUSY too. -/
def Obligations.HoldKeepsASpindleOutOfItsList : Prop :=
  ∀ (h : ReqFrame) (n : Nat) (s : State), s.takes h → h.short = false →
    (s.df.state = .doffing → exec (.hold h n) s = .next (s.answered h 0x20 .busy .empty)) ∧
    (¬ s.df.state = .doffing → ¬ (1 ≤ n ∧ n ≤ 1920 ∧ ¬ (s.spindle n).state = .vacant) →
      exec (.hold h n) s = .next (s.answered h 0x20 .argument .empty)) ∧
    (¬ s.df.state = .doffing → 1 ≤ n → n ≤ 1920 → ¬ (s.spindle n).state = .vacant → (s.spindle n).held = true →
      exec (.hold h n) s = .next (s.answered h 0x20 .done .empty)) ∧
    (¬ s.df.state = .doffing → 1 ≤ n → n ≤ 1920 → ¬ (s.spindle n).state = .vacant → (s.spindle n).held = false →
      ∃ t, exec (.hold h n) s = .next t ∧
        ((s.spindle n).state = .verifying →
          t.entry? n = (s.entry? n).map (fun e => { e with holdPending := true }) ∧
          t = { s.answered h 0x20 .done .empty with pd := t.pd }) ∧
        ((s.spindle n).state = .down ∨ (s.spindle n).state = .servicing →
          t.spindle n = { s.spindle n with state := .down, held := true, listStatus := .unlisted } ∧
          t.listed n = false ∧
          (s.servicedBy (sideOf n) = some n →
            (t.carriage (sideOf n)).state = .working ∧
            (t.carriage (sideOf n)).slot =
              some { kind := .cancel, number := (s.carriage (sideOf n)).nextNumber, collected := false })) ∧
        (¬ (s.spindle n).state = .verifying → ¬ (s.spindle n).state = .down → ¬ (s.spindle n).state = .servicing →
          t.spindle n = { s.spindle n with held := true } ∧
          t = { s.answered h 0x20 .done .empty with spindles := t.spindles }) ∧
        (∀ m, ¬ m = n → (s.spindle m).sameButDispatch (t.spindle m)) ∧
        t = { s.answered h 0x20 .done .empty with spindles := t.spindles, pd := t.pd })

/-- R73, R76: HOLD on a fitted segment holds each of its spindles as the single form does, in every doff state; HOLD_ALL sets the
global hold and changes nothing else. -/
def Obligations.SegmentAndGlobalHolds : Prop :=
  ∀ (h : ReqFrame) (s : State), s.takes h →
    exec (.holdAll h) s = .next { s.answered h 0x22 .done .empty with pd.globalHold := true } ∧
    (∀ k, h.short = false → ¬ (1 ≤ k ∧ k ≤ 80 ∧ s.fitted k = true) →
      exec (.holdSegment h k) s = .next (s.answered h 0x20 .argument .empty)) ∧
    (∀ k, h.short = false → 1 ≤ k → k ≤ 80 → s.fitted k = true →
      ∃ t, exec (.holdSegment h k) s = .next t ∧
        (∀ n ∈ segmentSpindles k, (s.spindle n).held = false →
          ((s.spindle n).state = .verifying →
            (t.entry? n).map (fun e => e.holdPending) = (s.entry? n).map (fun _ => true) ∧
            (s.spindle n).sameButDispatch (t.spindle n)) ∧
          ((s.spindle n).state = .down ∨ (s.spindle n).state = .servicing →
            t.spindle n = { s.spindle n with state := .down, held := true, listStatus := .unlisted } ∧
            t.listed n = false) ∧
          (¬ (s.spindle n).state = .verifying → ¬ (s.spindle n).state = .down → ¬ (s.spindle n).state = .servicing →
            ¬ (s.spindle n).state = .vacant →
            ({ s.spindle n with held := true }).sameButDispatch (t.spindle n))) ∧
        (∀ n, n ∉ segmentSpindles k ∨ (s.spindle n).held = true → (s.spindle n).sameButDispatch (t.spindle n)) ∧
        (∀ n ∈ segmentSpindles k, s.servicedBy (sideOf n) = some n → (s.spindle n).held = false →
          (t.carriage (sideOf n)).state = .working ∧
          (t.carriage (sideOf n)).slot =
            some { kind := .cancel, number := (s.carriage (sideOf n)).nextNumber, collected := false }) ∧
        t = { s.answered h 0x20 .done .empty with spindles := t.spindles, pd := t.pd })

/-- R69, R75, R76: RELEASE clears held and hold pending on the spindles it names, RELEASE_ALL on all with the global hold; admission
then leaves no unheld DOWN spindle of the side (of either side) outside a list with room, and takes those with the lowest break
marks first, ties to the lower number. A RELEASE_ALL that finds nothing to clear changes nothing. The MODEL'S CHOICES: in DOFFING a
RELEASE of a spindle out of range or VACANT is refused with BUSY too (log 13), and a hold pending counts as something for RELEASE_ALL
to clear (log 39). -/
def Obligations.ReleaseClearsHoldsAndAdmits : Prop :=
  ∀ (h : ReqFrame) (s : State), s.takes h →
    (∀ n, h.short = false → s.df.state = .doffing →
      exec (.release h (.spindle n)) s = .next (s.answered h 0x21 .busy .empty)) ∧
    (∀ n, h.short = false → ¬ s.df.state = .doffing → ¬ (1 ≤ n ∧ n ≤ 1920 ∧ ¬ (s.spindle n).state = .vacant) →
      exec (.release h (.spindle n)) s = .next (s.answered h 0x21 .argument .empty)) ∧
    (∀ k, h.short = false → ¬ (1 ≤ k ∧ k ≤ 80 ∧ s.fitted k = true) →
      exec (.release h (.segment k)) s = .next (s.answered h 0x21 .argument .empty)) ∧
    (∀ target side, h.short = false →
      (match target with
        | .spindle n => ¬ s.df.state = .doffing ∧ 1 ≤ n ∧ n ≤ 1920 ∧ ¬ (s.spindle n).state = .vacant ∧ sideOf n = side
        | .segment k => 1 ≤ k ∧ k ≤ 80 ∧ s.fitted k = true ∧ side = (if k ≤ 40 then .A else .B)) →
      ∃ t, exec (.release h target) s = .next t ∧
        (∀ n ∈ targetSpindles target,
          ({ s.spindle n with held := false }).sameButDispatch (t.spindle n) ∧
          ∀ e ∈ t.list (sideOf n), e.spindle = n → e.holdPending = false) ∧
        (∀ n, n ∉ targetSpindles target → (s.spindle n).sameButDispatch (t.spindle n)) ∧
        (48 ≤ (t.list side).length ∨ ∀ n ∈ sideSpindles side, waitsOutside (t.spindle n) = false) ∧
        (∀ n ∈ sideSpindles side, ∀ m ∈ sideSpindles side, s.listed n = false → t.listed n = true →
          waitsOutside (t.spindle m) = true →
          (s.spindle n).breakMark.getD 0 < (s.spindle m).breakMark.getD 0 ∨
            ((s.spindle n).breakMark.getD 0 = (s.spindle m).breakMark.getD 0 ∧ n < m)) ∧
        t = { s.answered h 0x21 .done .empty with spindles := t.spindles, pd := t.pd }) ∧
    (let something := s.pd.globalHold = true ∨ (∃ p ∈ s.spindles, p.held = true) ∨
        ∃ side, ∃ e ∈ s.list side, e.holdPending = true
    (¬ something → exec (.releaseAll h) s = .next (s.answered h 0x23 .done .empty)) ∧
    (something → ∃ t, exec (.releaseAll h) s = .next t ∧ t.pd.globalHold = false ∧
      (∀ n, ({ s.spindle n with held := false }).sameButDispatch (t.spindle n)) ∧
      (∀ side, ∀ e ∈ t.list side, e.holdPending = false) ∧
      (∀ side, 48 ≤ (t.list side).length ∨ ∀ n ∈ sideSpindles side, waitsOutside (t.spindle n) = false) ∧
      (∀ side, ∀ n ∈ sideSpindles side, ∀ m ∈ sideSpindles side, s.listed n = false → t.listed n = true →
        waitsOutside (t.spindle m) = true →
        (s.spindle n).breakMark.getD 0 < (s.spindle m).breakMark.getD 0 ∨
          ((s.spindle n).breakMark.getD 0 = (s.spindle m).breakMark.getD 0 ∧ n < m)) ∧
      t = { s.answered h 0x23 .done .empty with spindles := t.spindles, pd := t.pd }))

/-- R68, R86, R130: ROGUE_RELEASE of a ROGUE spindle: DOWN with attempts 0 and its break mark kept, then UNLISTED where it is held or
its list is full (LIST_FULL raised where its flag was clear), and in its list otherwise, where selection may take it. STATE for any
other counted spindle; BUSY in DOFFING. The MODEL'S CHOICE (log 13): in DOFFING a spindle out of range or VACANT is refused
with BUSY too. -/
def Obligations.RogueReleaseReturnsASpindleToDispatch : Prop :=
  ∀ (h : ReqFrame) (n : Nat) (s : State), s.takes h → h.short = false → s.events.length = 16 →
    (s.df.state = .doffing → exec (.rogueRelease h n) s = .next (s.answered h 0x24 .busy .empty)) ∧
    (¬ s.df.state = .doffing → ¬ (1 ≤ n ∧ n ≤ 1920 ∧ ¬ (s.spindle n).state = .vacant) →
      exec (.rogueRelease h n) s = .next (s.answered h 0x24 .argument .empty)) ∧
    (¬ s.df.state = .doffing → 1 ≤ n → n ≤ 1920 → ¬ (s.spindle n).state = .vacant → ¬ (s.spindle n).state = .rogue →
      exec (.rogueRelease h n) s = .next (s.answered h 0x24 .state .empty)) ∧
    (¬ s.df.state = .doffing → 1 ≤ n → n ≤ 1920 → (s.spindle n).state = .rogue → s.listed n = false →
      ∃ t, exec (.rogueRelease h n) s = .next t ∧
        ({ s.spindle n with attempts := 0 }).sameButDispatch (t.spindle n) ∧
        (∀ m, ¬ m = n → (s.spindle m).sameButDispatch (t.spindle m)) ∧
        ((s.spindle n).held = true ∨ 48 ≤ (s.list (sideOf n)).length →
          (t.spindle n).state = .down ∧ (t.spindle n).listStatus = .unlisted ∧ t.pd = s.pd) ∧
        ((s.spindle n).held = false → 48 ≤ (s.list (sideOf n)).length →
          (t.event 3).flag = true ∧
          ((s.event 3).flag = false → (t.event 3).detail = (match sideOf n with | .A => 1 | .B => 2))) ∧
        ((s.spindle n).held = false → (s.list (sideOf n)).length < 48 →
          (∃ e, t.entry? n = some e ∧ e.admittedAt = s.dc.runClock) ∧
          (t.list (sideOf n)).length = (s.list (sideOf n)).length + 1 ∧ t.events = s.events ∧
          t.ml = (s.answered h 0x24 .done .empty).ml ∧
          (((t.spindle n).state = .down ∧ (t.spindle n).listStatus = .waiting) ∨
            ((t.spindle n).state = .servicing ∧ (t.spindle n).listStatus = .assigned))) ∧
        (∃ notice, notice.length ≤ 1 ∧
          t.ml.own = (s.answered h 0x24 .done .empty).ml.own ++ notice) ∧
        t.dc = s.dc ∧ t.si = s.si ∧ t.df = s.df ∧ t.rm = s.rm ∧ t.sa = s.sa ∧ t.lc = s.lc ∧ t.ps = s.ps)

/-! ### Carriages -/

/-- R74, R81, R85, R97, R98, R99, R101: a carriage's OUTCOME: one that does not match the outstanding order by number and kind raises the
stale count and changes nothing else; a matched one takes the position, which PARKED makes 0, and acts by its kind, on the spindle only
while that is SERVICING. A MISSED spindle is ROGUE at the attempt limit, DOWN and UNLISTED where a hold is pending, and DOWN with its
entry WAITING otherwise, where selection may take it again. A matched outcome other than BLOCKED clears the passed over marks of the
carriage's side, and a BLOCKED one leaves those of the other entries. The MODEL'S CHOICE (log 40): an outcome after which the order timer runs
for the next order, having run before it, marks that timer, so that an expiry that fell together with the outcome takes nothing OUT
(R109). The MODEL'S reading (log 42): the outcome of a cancelled PIECE is stale, as R95 and R97 have it, where R72 and R87 say that it
only frees the carriage. -/
def Obligations.OutcomesActByOrderAndKind : Prop :=
  ∀ (s : State) (side : Side) (number code position : Nat), s.events.length = 16 →
    let c := s.carriage side
    let t := takeOutcome side number code position s
    let pendingHold : Nat → Bool := fun n => (s.entry? n).any (fun e => e.holdPending)
    let marked : Overtaken := { s.overtaken with
      orders :=
        if c.timer.running = true ∧ (t.carriage side).timer.running = true then s.overtaken.orders.set side true
        else s.overtaken.orders }
    let cleared : Prop := ∀ e ∈ t.list side, e.passedOver = false
    (c.state = .out ∨ c.slot = none ∨ code = 0 ∨ 7 < code ∨
      (∃ o, c.slot = some o ∧
        (¬ o.number = number ∨
          (match o.kind with
            | .piece _ _ => code = 4 ∨ code = 5
            | .cancel => code = 1 ∨ code = 2 ∨ code = 3 ∨ code = 5
            | .park => code = 1 ∨ code = 2 ∨ code = 3 ∨ code = 4))) →
      t.carriage side = { c with stale := min 65535 (c.stale + 1) } ∧
      t = { s with pd.carriages := t.pd.carriages } ∧ (∀ x, ¬ x = side → t.carriage x = s.carriage x)) ∧
    (∀ o, ¬ c.state = .out → c.slot = some o → o.number = number →
      (∀ n x, o.kind = .piece n x → code = 1 ∨ code = 2 ∨ code = 3 →
        (∀ m, m ≠ n → (s.spindle m).sameButDispatch (t.spindle m)) ∧
        ((t.carriage side).state = .idle ∨ (t.carriage side).state = .assigned) ∧
        (t.carriage side).position = min 960 position ∧ (t.carriage side).stale = c.stale ∧
        t.overtaken = marked ∧
        (code = 1 ∨ code = 2 → cleared) ∧
        (code = 3 → ∀ e ∈ t.list side, ¬ e.spindle = n ∨ ¬ (s.spindle n).state = .servicing →
          ∃ f ∈ s.list side, f.spindle = e.spindle ∧ f.passedOver = e.passedOver) ∧
        (¬ (s.spindle n).state = .servicing → (s.spindle n).sameButDispatch (t.spindle n) ∧ t.sa = s.sa) ∧
        ((s.spindle n).state = .servicing → 1 ≤ n → n ≤ s.spindles.length → sideOf n = side →
          (code = 1 →
            t.spindle n = { s.spindle n with state := .verifying, listStatus := .verifying } ∧ t.sa = s.sa ∧
            ∀ e ∈ t.list side, e.spindle = n → e.status = .verifying ∧ e.carriage = none ∧
              e.window = some { left := s.ml.recipe.verifyWindow * 1000, running := decide (s.si.gate = .opened) }) ∧
          (code = 2 → (t.spindle n).attempts = (s.spindle n).attempts + 1 ∧
            t.sa = { s.sa with counters.failed := min 4294967295 (s.sa.counters.failed + 1) } ∧
            (s.ml.recipe.attemptLimit ≤ (s.spindle n).attempts + 1 →
              t.spindle n =
                { s.spindle n with
                  state := .rogue, attempts := (s.spindle n).attempts + 1, held := (s.spindle n).held || pendingHold n,
                  listStatus := .none } ∧
              t.listed n = false ∧ (t.event 4).flag = true ∧ (t.event 4).detail = n) ∧
            ((s.spindle n).attempts + 1 < s.ml.recipe.attemptLimit → pendingHold n = true →
              t.spindle n =
                { s.spindle n with
                  state := .down, attempts := (s.spindle n).attempts + 1, held := true, listStatus := .unlisted } ∧
              t.listed n = false ∧ t.events = s.events) ∧
            ((s.spindle n).attempts + 1 < s.ml.recipe.attemptLimit → pendingHold n = false →
              t.events = s.events ∧ t.listed n = s.listed n ∧
              ((t.spindle n =
                  { s.spindle n with
                    state := .down, attempts := (s.spindle n).attempts + 1, listStatus := .waiting } ∧
                ∀ e ∈ t.list side, e.spindle = n → e.status = .waiting ∧ e.carriage = none ∧ e.window = none) ∨
               (t.spindle n =
                  { s.spindle n with
                    state := .servicing, attempts := (s.spindle n).attempts + 1, listStatus := .assigned } ∧
                t.servicedBy side = some n ∧
                ∀ e ∈ t.list side, e.spindle = n → e.status = .assigned ∧ e.carriage = some side ∧ e.window = none)))) ∧
          (code = 3 → (t.spindle n).attempts = (s.spindle n).attempts ∧ t.sa = s.sa ∧
            (0 < s.ml.recipe.ageLimit → s.listed n = true →
              t.spindle n = { s.spindle n with state := .down, listStatus := .waiting } ∧
              ∃ e, (t.list side).getLast? = some e ∧ e.spindle = n ∧ e.status = .waiting ∧ e.passedOver = true ∧
                e.admittedAt = s.dc.runClock)))) ∧
      (o.kind = .cancel → code = 4 →
        ((t.carriage side).state = .idle ∨ (t.carriage side).state = .assigned) ∧
        (t.carriage side).position = min 960 position ∧ (t.carriage side).stale = c.stale ∧ t.overtaken = marked ∧
        cleared ∧ (∀ n, (s.spindle n).sameButDispatch (t.spindle n)) ∧ t.sa = s.sa) ∧
      (o.kind = .park → code = 5 →
        (t.carriage side).position = 0 ∧ (t.carriage side).stale = c.stale ∧ t.overtaken = marked ∧ cleared ∧
        (¬ s.df.state = .spinning →
          (t.carriage side).state = .parked ∧ (t.carriage side).slot = none) ∧
        (s.df.state = .spinning → (t.carriage side).state = .idle ∨ (t.carriage side).state = .assigned) ∧
        (∀ n, (s.spindle n).sameButDispatch (t.spindle n)) ∧ t.sa = s.sa) ∧
      (code = 6 ∨ code = 7 →
        (t.carriage side).state = .out ∧ (t.carriage side).slot = none ∧
        (t.carriage side).position = min 960 position ∧ (t.carriage side).stale = c.stale ∧ t.overtaken = s.overtaken ∧
        cleared ∧ (t.event 5).flag = true ∧ (t.event 5).detail = carriageAddress side ∧
        (∀ n, s.servicedBy side = some n → 1 ≤ n → n ≤ s.spindles.length →
          t.spindle n = { s.spindle n with state := .down, listStatus := .waiting }) ∧
        (∀ n, (s.spindle n).sameButDispatch (t.spindle n)) ∧ t.sa = s.sa)) ∧
    t.dc = s.dc ∧ t.si = s.si ∧ t.rm = s.rm ∧ t.lc = s.lc ∧ t.ps = s.ps

/-- R100, R106, R107: CARRIAGE_OUT takes a carriage OUT with no event and clears awaiting first finding, its PIECE taken back;
CARRIAGE_RESTORE brings an OUT carriage whose station is found back, IDLE in SPINNING with selection and PARKED otherwise; STATE for
any other; ARGUMENT for a carriage that is neither A nor B. A carriage that goes OUT or comes back PARKED in DUE with the other PARKED
or OUT takes the Doff Controller to STOPPING (R119). The MODEL'S CHOICE (log 11): the stopped order timer keeps its milliseconds. -/
def Obligations.CarriagesGoOutAndComeBack : Prop :=
  ∀ (h : ReqFrame) (s : State), s.takes h → h.short = false →
    exec (.carriageOut h none) s = .next (s.answered h 0x28 .argument .empty) ∧
    exec (.carriageRestore h none) s = .next (s.answered h 0x29 .argument .empty) ∧
    (∀ side, (s.carriage side).state = .out → ∃ t, exec (.carriageOut h (some side)) s = .next t ∧
      t.carriage side = { s.carriage side with awaiting := false } ∧
      (∀ x, ¬ x = side → t.carriage x = s.carriage x) ∧
      t = { s.answered h 0x28 .done .empty with pd.carriages := t.pd.carriages }) ∧
    (∀ side other, ¬ (s.carriage side).state = .out → ¬ other = side →
      ∃ t, exec (.carriageOut h (some side)) s = .next t ∧
        t.carriage side =
          { s.carriage side with
            state := .out, slot := none, awaiting := false,
            timer := { left := (s.carriage side).timer.left, running := false } } ∧
        (t.carriage other).state = (s.carriage other).state ∧ (t.carriage other).slot = (s.carriage other).slot ∧
        (t.df.state = if s.df.state = .due ∧ (s.carriage other).away = true then .stopping else s.df.state) ∧
        (∀ n, s.servicedBy side = some n → 1 ≤ n → n ≤ s.spindles.length →
          t.spindle n = { s.spindle n with state := .down, listStatus := .waiting }) ∧
        (∀ n, s.servicedBy side = some n → ∀ e ∈ t.list (sideOf n), e.spindle = n →
          e.status = .waiting ∧ e.carriage = none) ∧
        (∀ n, ¬ s.servicedBy side = some n → t.spindle n = s.spindle n) ∧
        (∀ x, (t.list x).length = (s.list x).length) ∧
        t = { s.answered h 0x28 .done .empty with spindles := t.spindles, pd := t.pd, df := t.df }) ∧
    (∀ side, ¬ (s.carriage side).state = .out ∨ (s.station (carriageAddress side)).found = false →
      exec (.carriageRestore h (some side)) s = .next (s.answered h 0x29 .state .empty)) ∧
    (∀ side, (s.carriage side).state = .out → (s.station (carriageAddress side)).found = true →
      s.df.state = .spinning → ∃ t, exec (.carriageRestore h (some side)) s = .next t ∧
        ((t.carriage side).state =
          if (∃ e ∈ s.list side, e.status = .waiting) ∧ s.si.gate = .opened ∧ s.pd.globalHold = false then .assigned
          else .idle) ∧
        (t.carriage side).position = (s.carriage side).position ∧
        (t.carriage side).pieced = (s.carriage side).pieced ∧ (t.carriage side).stale = (s.carriage side).stale ∧
        (∀ x, ¬ x = side → t.carriage x = s.carriage x) ∧
        (∀ e ∈ t.list side, e.passedOver = false) ∧ (t.list side).length = (s.list side).length ∧
        (∀ n, (s.spindle n).sameButDispatch (t.spindle n)) ∧
        t = { s.answered h 0x29 .done .empty with spindles := t.spindles, pd := t.pd }) ∧
    (∀ side other, (s.carriage side).state = .out → (s.station (carriageAddress side)).found = true → ¬ other = side →
      ¬ s.df.state = .spinning → ∃ t, exec (.carriageRestore h (some side)) s = .next t ∧
        t.carriage side = { s.carriage side with state := .parked, timer := (t.carriage side).timer } ∧
        (t.df.state = if s.df.state = .due ∧ (s.carriage other).away = true then .stopping else s.df.state) ∧
        t.pd.lists = s.pd.lists ∧
        t = { s.answered h 0x29 .done .empty with pd := t.pd, df := t.df })

/-! ### The doff cycle -/

/-- R102, R118, R119: DOFF_NOW in SPINNING or HALTED: DOFF_DUE raised with detail 2, each carriage that is IDLE, ASSIGNED or WORKING
given a PARK with its piece taken back, and the wait in DUE with the park timer running, or STOPPING at once where both carriages are
PARKED or OUT. STATE in every other doff state. -/
def Obligations.DoffNowParksTheCarriagesAndWaits : Prop :=
  ∀ (h : ReqFrame) (s : State), s.takes h →
    (¬ s.df.state = .spinning → ¬ s.df.state = .halted →
      exec (.doffNow h) s = .next (s.answered h 0x30 .state .empty)) ∧
    (s.df.state = .spinning ∨ s.df.state = .halted → s.events.length = 16 →
      ∃ t, exec (.doffNow h) s = .next t ∧
        (t.event 6).flag = true ∧ (t.event 6).detail = 2 ∧ (∀ c, ¬ c = 6 → t.event c = s.event c) ∧
        (∀ side,
          ((s.carriage side).state = .idle ∨ (s.carriage side).state = .assigned ∨ (s.carriage side).state = .working →
            (t.carriage side).state = .parking ∧
            (t.carriage side).slot =
              some { kind := .park, number := (s.carriage side).nextNumber, collected := false } ∧
            (t.carriage side).nextNumber = ((s.carriage side).nextNumber + 1) % 256) ∧
          (¬ (s.carriage side).state = .idle → ¬ (s.carriage side).state = .assigned →
            ¬ (s.carriage side).state = .working →
            (t.carriage side).state = (s.carriage side).state ∧ (t.carriage side).slot = (s.carriage side).slot)) ∧
        ((s.carriage .A).away = true ∧ (s.carriage .B).away = true →
          t.df.state = .stopping ∧ t.df.driveSlot = some { order := .stop, number := s.df.driveNext } ∧
          t.df.parkTimer.running = false ∧
          t.df.doffTimer = { left := s.ml.recipe.doffLimit * 1000, mode := .running }) ∧
        (¬ ((s.carriage .A).away = true ∧ (s.carriage .B).away = true) →
          t.df = { s.df with
            state := .due, parkTimer := { left := s.ml.recipe.parkLimit * 1000, running := true } }) ∧
        (∀ side n, s.servicedBy side = some n →
          (s.carriage side).state = .assigned ∨ (s.carriage side).state = .working → 1 ≤ n → n ≤ s.spindles.length →
          t.spindle n = { s.spindle n with state := .down, listStatus := .waiting }) ∧
        (∀ n, (s.spindle n).sameButDispatch (t.spindle n)) ∧
        t.dc = s.dc ∧ t.si = s.si ∧ t.rm = s.rm ∧ t.sa = s.sa ∧ t.lc = s.lc ∧ t.ps = s.ps)

/-- R118, R119, R126: DOFF_INHIBIT sets the inhibit, and in DUE below the overrun returns the frame to SPINNING; DOFF_PERMIT clears
it, and in SPINNING makes the due test, in BLOCKED goes on to DOFFING where the drive is found STOPPED and back to STOPPING
otherwise. -/
def Obligations.InhibitAndPermitGovernTheDoff : Prop :=
  ∀ (h : ReqFrame) (s : State), s.takes h →
    let spanNow := s.dc.frameLength - s.df.mark
    let far := s.ml.recipe.doffTarget + s.ml.recipe.doffOverrun
    (¬ (s.df.state = .due ∧ spanNow < far) →
      exec (.doffInhibit h) s = .next { s.answered h 0x31 .done .empty with df.inhibit := true }) ∧
    (s.df.state = .due → spanNow < far → ∃ t, exec (.doffInhibit h) s = .next t ∧
      t.df.state = .spinning ∧ t.df.inhibit = true ∧ t.df.parkTimer.running = false ∧ t.df.stopTime = none ∧
      t.df.inProgress = false ∧ t.df.mark = s.df.mark ∧
      (∀ side, (s.carriage side).state = .parked →
        (t.carriage side).state = .idle ∨ (t.carriage side).state = .assigned) ∧
      (∀ n, (s.spindle n).sameButDispatch (t.spindle n)) ∧
      t.dc = s.dc ∧ t.si = s.si ∧ t.rm = s.rm ∧ t.lc = s.lc ∧ t.ps = s.ps) ∧
    (¬ s.df.state = .spinning → ¬ s.df.state = .blocked →
      exec (.doffPermit h) s = .next { s.answered h 0x32 .done .empty with df.inhibit := false }) ∧
    (s.df.state = .spinning → spanNow < s.ml.recipe.doffTarget →
      exec (.doffPermit h) s = .next { s.answered h 0x32 .done .empty with df.inhibit := false }) ∧
    (s.df.state = .spinning → s.ml.recipe.doffTarget ≤ spanNow → s.events.length = 16 →
      ∃ t, exec (.doffPermit h) s = .next t ∧ t.df.inhibit = false ∧
        (t.event 6).flag = true ∧ (t.event 6).detail = 0 ∧
        (t.df.state = if (s.carriage .A).away = true ∧ (s.carriage .B).away = true then .stopping else .due)) ∧
    (s.df.state = .blocked → (s.station 96).found = true → s.dc.drive = some .stopped →
      exec (.doffPermit h) s = .next
        { s.answered h 0x32 .done .empty with
          df := { s.df with
            inhibit := false, state := .doffing, inProgress := true,
            dofferSlot := some { order := .go (s.df.lastSegment + 1), number := s.df.dofferNext },
            dofferNext := (s.df.dofferNext + 1) % 256,
            doffTimer := { left := s.ml.recipe.doffLimit * 1000, mode := .running } } }) ∧
    (s.df.state = .blocked → ¬ ((s.station 96).found = true ∧ s.dc.drive = some .stopped) →
      exec (.doffPermit h) s = .next
        { s.answered h 0x32 .done .empty with
          df := { s.df with
            inhibit := false, state := .stopping,
            driveSlot := some { order := .stop, number := s.df.driveNext },
            driveNext := (s.df.driveNext + 1) % 256,
            doffTimer := { left := s.ml.recipe.doffLimit * 1000, mode := .running },
            stopTime := match s.df.stopTime with | some x => some x | none => some s.dc.runClock } })

/-- R122, R123, R125, R128: DOFF_SUSPEND, DOFF_RESUME, DOFF_RETRY and DOFF_CONFIRM each in the state that takes it, with the order it
places and what it does to the doff timer; STATE in every other. -/
def Obligations.SuspendResumeRetryAndConfirm : Prop :=
  ∀ (h : ReqFrame) (s : State), s.takes h →
    (s.df.state = .doffing → exec (.doffSuspend h) s = .next
      { s.answered h 0x33 .done .empty with
        df := { s.df with
          state := .suspended, dofferSlot := some { order := .pause, number := s.df.dofferNext },
          dofferNext := (s.df.dofferNext + 1) % 256,
          doffTimer := { left := s.df.doffTimer.left, mode := .frozen } } }) ∧
    (s.df.state = .suspended → exec (.doffResume h) s = .next
      { s.answered h 0x34 .done .empty with
        df := { s.df with
          state := .doffing, dofferSlot := some { order := .resume, number := s.df.dofferNext },
          dofferNext := (s.df.dofferNext + 1) % 256,
          doffTimer := { left := s.df.doffTimer.left, mode := .running } } }) ∧
    (s.df.state = .faulted → (s.station 96).found = true → s.dc.drive = some .stopped → (s.station 99).found = true →
      exec (.doffRetry h) s = .next
        { s.answered h 0x35 .done .empty with
          df := { s.df with
            state := .doffing, inProgress := true,
            dofferSlot := some { order := .go (s.df.lastSegment + 1), number := s.df.dofferNext },
            dofferNext := (s.df.dofferNext + 1) % 256,
            doffTimer := { left := s.ml.recipe.doffLimit * 1000, mode := .running } } }) ∧
    (s.df.state = .faulted → s.events.length = 16 → ∃ t, exec (.doffConfirm h) s = .next t ∧
      t.df = { s.df with
        state := .restarting, mark := s.dc.frameLength, lastSegment := 0, inProgress := false,
        driveSlot := some { order := .run, number := s.df.driveNext }, driveNext := (s.df.driveNext + 1) % 256,
        doffTimer := { left := s.ml.recipe.doffLimit * 1000, mode := .running } } ∧
      t.spindles = s.spindles.map (fun p => { p with lostDoff := 0 }) ∧
      t.sa = { s.sa with counters.doffs := min 4294967295 (s.sa.counters.doffs + 1) } ∧
      (t.event 7).flag = true ∧ (t.event 7).detail = 1 ∧ (∀ c, ¬ c = 7 → t.event c = s.event c) ∧
      t.dc = s.dc ∧ t.si = s.si ∧ t.pd = s.pd ∧ t.rm = s.rm ∧ t.lc = s.lc ∧ t.ps = s.ps) ∧
    (¬ s.df.state = .doffing → exec (.doffSuspend h) s = .next (s.answered h 0x33 .state .empty)) ∧
    (¬ s.df.state = .suspended → exec (.doffResume h) s = .next (s.answered h 0x34 .state .empty)) ∧
    (¬ (s.df.state = .faulted ∧ (s.station 96).found = true ∧ s.dc.drive = some .stopped ∧
        (s.station 99).found = true) →
      exec (.doffRetry h) s = .next (s.answered h 0x35 .state .empty)) ∧
    (¬ s.df.state = .faulted → exec (.doffConfirm h) s = .next (s.answered h 0x36 .state .empty))

/-- R115, R128: the doffer's DOFF_STEP and DOFF_END by the doff state: taken in DOFFING, in SUSPENDED and in FAULTED with the doff in
progress, and otherwise ignored and counted. A step raises the last segment doffed; done completes the doff into RESTARTING; fault
enters FAULTED with cause 4, from DOFFING with a DOFF_PAUSE placed (R124). The MODEL'S CHOICES: the doff timer stopped at a
fault keeps its milliseconds (log 11), and a completion that loads the timer while it runs marks it, so that an expiry that fell
together with the report comes to nothing (R133; log 40). -/
def Obligations.DofferReportsMoveTheDoff : Prop :=
  ∀ (s : State) (k : Nat), s.events.length = 16 →
    let taken := s.df.state = .doffing ∨ s.df.state = .suspended ∨ (s.df.state = .faulted ∧ s.df.inProgress = true)
    let ignored : State := { s with df.ignored := min 65535 (s.df.ignored + 1) }
    (taken → 1 ≤ k → k ≤ 80 →
      takeDoffStep k s =
        { s with df.lastSegment := if s.df.lastSegment < k then k else s.df.lastSegment }) ∧
    (k = 0 ∨ 80 < k ∨ ¬ taken → takeDoffStep k s = ignored) ∧
    (¬ taken → takeDoffEnd true s = ignored ∧ takeDoffEnd false s = ignored) ∧
    (taken →
      let t := takeDoffEnd true s
      t.df = { s.df with
        state := .restarting, mark := s.dc.frameLength, lastSegment := 0, inProgress := false,
        driveSlot := some { order := .run, number := s.df.driveNext }, driveNext := (s.df.driveNext + 1) % 256,
        doffTimer := { left := s.ml.recipe.doffLimit * 1000, mode := .running } } ∧
      t.spindles = s.spindles.map (fun p => { p with lostDoff := 0 }) ∧
      t.sa = { s.sa with counters.doffs := min 4294967295 (s.sa.counters.doffs + 1) } ∧
      (t.event 7).flag = true ∧ (t.event 7).detail = 0 ∧ (∀ c, ¬ c = 7 → t.event c = s.event c) ∧
      t.overtaken = { s.overtaken with
        doff := if s.df.doffTimer.mode = .running then true else s.overtaken.doff } ∧
      t = { s with
        df := t.df, spindles := t.spindles, sa := t.sa, events := t.events, ml := t.ml, overtaken := t.overtaken }) ∧
    (s.df.state = .doffing ∨ s.df.state = .suspended →
      let t := takeDoffEnd false s
      let timer : DoffTimer := { left := s.df.doffTimer.left, mode := .stopped }
      t.df =
        (if s.df.state = .doffing then
          { s.df with
            state := .faulted, doffTimer := timer,
            dofferSlot := some { order := .pause, number := s.df.dofferNext },
            dofferNext := (s.df.dofferNext + 1) % 256 }
        else { s.df with state := .faulted, doffTimer := timer }) ∧
      (t.event 8).flag = true ∧ (t.event 8).detail = 4 ∧ (∀ c, ¬ c = 8 → t.event c = s.event c) ∧
      t = { s with df := t.df, events := t.events, ml := t.ml }) ∧
    (s.df.state = .faulted → s.df.inProgress = true → takeDoffEnd false s = s)

/-- R117, R118, R129, R130, R185: FRAME_HALT makes a HALT wait for the line and moves the doff state by its rule; FRAME_RUN in HALTED enters
SPINNING where the drive is found RUNNING, with the due test made, and places RUN otherwise, in RESTARTING places RUN, and is refused
with STATE elsewhere. The MODEL'S CHOICES: a stopped park or doff timer keeps its milliseconds (log 11); a message may be in progress
when a HALT comes to wait outside a visit, and a second FRAME_HALT changes nothing of that (log 36). -/
def Obligations.FrameHaltAndFrameRun : Prop :=
  ∀ (h : ReqFrame) (s : State), s.takes h →
    let limit := s.ml.recipe.doffTarget + (if s.df.inhibit then s.ml.recipe.doffOverrun else 0)
    let charged : Shifts := { s.sa with
      counters.stopSeconds :=
        match s.df.stopTime with
        | some x => min 4294967295 (s.sa.counters.stopSeconds + (s.dc.runClock - x))
        | none => s.sa.counters.stopSeconds }
    let waiting : LineControl := { s.lc with
      haltWaiting := true
      messageFirst := if s.lc.haltWaiting then s.lc.messageFirst else s.lc.visit.isNone }
    (s.df.state = .spinning → exec (.frameHalt h) s = .next
      { s.answered h 0x37 .done .empty with lc := waiting, df.state := .halted }) ∧
    (s.df.state = .due → ∃ t, exec (.frameHalt h) s = .next t ∧
      t.df = { s.df with state := .halted, parkTimer := { left := s.df.parkTimer.left, running := false } } ∧
      t = { s.answered h 0x37 .done .empty with
            lc := waiting, df := t.df, pd.carriages := t.pd.carriages } ∧
      (∀ side,
        ((s.carriage side).slot.any (fun o => decide (o.kind = .park)) = true →
          t.carriage side =
            { s.carriage side with timer := { left := s.ml.recipe.orderLimit * 1000, running := true } }) ∧
        ((s.carriage side).slot.any (fun o => decide (o.kind = .park)) = false →
          t.carriage side = s.carriage side))) ∧
    (s.df.state = .stopping ∨ s.df.state = .restarting → exec (.frameHalt h) s = .next
      { s.answered h 0x37 .done .empty with
        lc := waiting, df.state := .halted, df.doffTimer.mode := .stopped }) ∧
    (s.df.state = .doffing → exec (.frameHalt h) s = .next
      { s.answered h 0x37 .done .empty with
        lc := waiting
        df := { s.df with
          state := .suspended, dofferSlot := some { order := .pause, number := s.df.dofferNext },
          dofferNext := (s.df.dofferNext + 1) % 256,
          doffTimer := { left := s.df.doffTimer.left, mode := .frozen } } }) ∧
    (s.df.state = .looking ∨ s.df.state = .halted ∨ s.df.state = .suspended ∨ s.df.state = .faulted ∨
        s.df.state = .blocked →
      exec (.frameHalt h) s = .next { s.answered h 0x37 .done .empty with lc := waiting }) ∧
    ((s.df.state = .halted ∧ ¬ ((s.station 96).found = true ∧ s.dc.drive = some .running)) ∨ s.df.state = .restarting →
      exec (.frameRun h) s = .next
        { s.answered h 0x38 .done .empty with
          df.driveSlot := some { order := .run, number := s.df.driveNext }
          df.driveNext := (s.df.driveNext + 1) % 256 }) ∧
    (s.df.state = .halted → (s.station 96).found = true → s.dc.drive = some .running →
      s.dc.frameLength - s.df.mark < limit → ∃ t, exec (.frameRun h) s = .next t ∧
        t.df = { s.df with
          state := .spinning, stopTime := none, inProgress := false,
          lastSegment := if s.df.inProgress then 0 else s.df.lastSegment } ∧
        t.sa = charged ∧
        (∀ side, (s.carriage side).state = .parked →
          (t.carriage side).state = .idle ∨ (t.carriage side).state = .assigned) ∧
        (∀ side, (s.carriage side).state = .out → (t.carriage side).state = .out) ∧
        (∀ n, (s.spindle n).sameButDispatch (t.spindle n)) ∧
        t.dc = s.dc ∧ t.si = s.si ∧ t.rm = s.rm ∧ t.lc = s.lc ∧ t.ps = s.ps) ∧
    (s.df.state = .halted → (s.station 96).found = true → s.dc.drive = some .running →
      limit ≤ s.dc.frameLength - s.df.mark → s.events.length = 16 → ∃ t, exec (.frameRun h) s = .next t ∧
        (t.event 6).flag = true ∧ (t.event 6).detail = (if s.df.inhibit then 1 else 0) ∧
        (t.df.state =
          if (s.carriage .A).state = .out ∧ (s.carriage .B).state = .out then .stopping else .due) ∧
        t.df.inProgress = false ∧ t.df.mark = s.df.mark ∧ t.sa = charged ∧
        (∀ side, (s.carriage side).state = .out → (t.carriage side).state = .out) ∧
        (∀ side, ¬ (s.carriage side).state = .out → (t.carriage side).state = .parking) ∧
        (∀ n, (s.spindle n).sameButDispatch (t.spindle n)) ∧
        t.dc = s.dc ∧ t.si = s.si ∧ t.rm = s.rm ∧ t.lc = s.lc ∧ t.ps = s.ps) ∧
    (¬ s.df.state = .halted → ¬ s.df.state = .restarting →
      exec (.frameRun h) s = .next (s.answered h 0x38 .state .empty))

/-! ### Roving and shifts -/

/-- R136, R138, R144: ROVING_SET fills each counted position of its target at the frame length, by a class with the lot table's mass
(absent for an invalid class, with LOT_FAULT raised) or by a mass clamped to 100..4000 g, sets lost since fill to 0 and clears lot
reported, and a segment pass falls due. ARGUMENT for a class outside 0..15; BUSY in DOFFING. The MODEL'S CHOICE (log 13): in
DOFFING a target that may not be named is refused with BUSY too. -/
def Obligations.RovingSetFillsPositions : Prop :=
  ∀ (h : ReqFrame) (target : Target) (s : State), s.takes h → h.short = false → s.events.length = 16 →
    let k := match target with | .spindle n => (n - 1) / 24 + 1 | .segment k => k
    let named := match target with
      | .spindle n => 1 ≤ n ∧ n ≤ 1920 ∧ ¬ (s.spindle n).state = .vacant
      | .segment k => 1 ≤ k ∧ k ≤ 80 ∧ s.fitted k = true
    let filled : Option Nat → State → Prop := fun mass t =>
      (∀ n ∈ targetSpindles target, ¬ (s.spindle n).state = .vacant →
        t.spindle n =
          { s.spindle n with
            fill := mass.map (fun g => { mark := s.dc.frameLength, mass := g }), lostFill := 0,
            lotReported := false }) ∧
      (∀ n, n ∉ targetSpindles target ∨ (s.spindle n).state = .vacant → t.spindle n = s.spindle n) ∧
      t.rm = { s.rm with due := s.rm.due ++ [.segment k] } ∧
      t.dc = s.dc ∧ t.si = s.si ∧ t.pd = s.pd ∧ t.df = s.df ∧ t.sa = s.sa ∧ t.lc = s.lc ∧ t.ps = s.ps
    (s.df.state = .doffing → ∀ fill, exec (.rovingSet h target fill) s = .next (s.answered h 0x42 .busy .empty)) ∧
    (¬ s.df.state = .doffing → ¬ named → ∀ fill,
      exec (.rovingSet h target fill) s = .next (s.answered h 0x42 .argument .empty)) ∧
    (¬ s.df.state = .doffing → named →
      (∀ c, 16 ≤ c → exec (.rovingSet h target (.byClass c)) s = .next (s.answered h 0x42 .argument .empty)) ∧
      (∀ c lot, c < 16 → s.rm.lots[c]? = some lot → lot.valid = true →
        ∃ t, exec (.rovingSet h target (.byClass c)) s = .next t ∧ filled (some lot.mass) t ∧
          t.ml = (s.answered h 0x42 .done .empty).ml ∧ t.events = s.events) ∧
      (∀ c lot, c < 16 → s.rm.lots[c]? = some lot → lot.valid = false →
        ∃ t, exec (.rovingSet h target (.byClass c)) s = .next t ∧ filled none t ∧
          (t.event 11).flag = true ∧ (t.event 11).detail = k ∧ (∀ b, ¬ b = 11 → t.event b = s.event b)) ∧
      (∀ g, ∃ t, exec (.rovingSet h target (.byMass g)) s = .next t ∧ filled (some (max 100 (min 4000 g))) t ∧
        t.ml = (s.answered h 0x42 (if 100 ≤ g ∧ g ≤ 4000 then .done else .clamped 1) .empty).ml ∧
        t.events = s.events))

/-- R136, R138, R141, R142: an EXCHANGE from a segment. One that names no position changes nothing. One that names positions fills
each that is not VACANT at the frame length, with the class's mass, or with an absent mass where the class is invalid or outside
0..15, for which LOT_FAULT is raised with the segment number; it is counted once, and a segment pass falls due. -/
def Obligations.ExchangesFillTheirPositions : Prop :=
  ∀ (s : State) (k cls : Nat) (positions : List Nat), 1 ≤ k → k ≤ 80 → (∀ i ∈ positions, 1 ≤ i ∧ i ≤ 24) →
    s.events.length = 16 →
    let mass : Option Nat := (s.rm.lots[cls]?).bind (fun lot => if lot.valid = true then some lot.mass else none)
    let t := takeExchange k cls positions s
    (positions = [] → t = s) ∧
    (¬ positions = [] →
      (∀ n, t.spindle n =
        if (∃ i ∈ positions, n = 24 * (k - 1) + i) ∧ ¬ (s.spindle n).state = .vacant then
          { s.spindle n with
            fill := mass.map (fun g => { mark := s.dc.frameLength, mass := g }), lostFill := 0,
            lotReported := false }
        else s.spindle n) ∧
      t.sa = { s.sa with counters.exchanges := min 4294967295 (s.sa.counters.exchanges + 1) } ∧
      t.rm = { s.rm with due := s.rm.due ++ [.segment k] } ∧
      (mass.isSome = true → t.events = s.events ∧ t.ml = s.ml) ∧
      (mass = none → (t.event 11).flag = true ∧ (t.event 11).detail = k ∧
        (t.event 11).count = min 255 ((s.event 11).count + 1) ∧ (∀ c, ¬ c = 11 → t.event c = s.event c)) ∧
      t = { s with spindles := t.spindles, sa := t.sa, rm := t.rm, events := t.events, ml := t.ml })

/-- R160, R161, R162, R165, R167: SHIFT_CLOSE with the open shift's number changes nothing; with a new one, as one change, the open shift's record
goes to the head of a history of at most four with the stop-time seconds so far, the new shift opens at the run clock and the frame
length with its counters 0, every lost since shift and breaks in shift is 0, and SHIFT_CLOSED is raised with the closed number. READ_SHIFT index 0 answers with
the open shift's record computed now, index 1 to the history's length with that closed record, any other is refused with ARGUMENT. -/
def Obligations.ShiftsCloseAndAreRead : Prop :=
  ∀ (h : ReqFrame) (number : Nat) (s : State), s.takes h → h.short = false → s.events.length = 16 →
    let running : Spindle → Nat := fun p =>
      s.dc.frameLength - s.sa.mark - p.lostShift -
        (if p.state.isDown = true then openSince p.breakMark s.dc.frameLength s.sa.mark else 0)
    let counted := s.spindles.filter (fun p => !decide (p.state = .vacant))
    let sum := (counted.map running).sum
    let whole := (s.dc.frameLength - s.sa.mark) * (24 * (s.ps.inForce.segmentsA + s.ps.inForce.segmentsB))
    (number = s.sa.number → exec (.shiftClose h number) s = .next (s.answered h 0x48 .done .empty)) ∧
    (¬ number = s.sa.number → ∃ (t : State) (r : ShiftRecord), exec (.shiftClose h number) s = .next t ∧
      t.sa =
        { number := number, openedAt := s.dc.runClock, mark := s.dc.frameLength,
          counters := { breaks := 0, piecedA := 0, piecedB := 0, failed := 0, doffs := 0, stopSeconds := 0,
                        exchanges := 0 },
          history := (r :: s.sa.history).take 4 } ∧
      r.number = s.sa.number ∧ r.openedAt = s.sa.openedAt ∧ r.closedAt = some s.dc.runClock ∧
      r.delivered = (s.dc.frameLength - s.sa.mark) / 1000 ∧
      r.produced = sum / 1000 ∧ r.mass = sum * s.ml.recipe.countTex10 / 10000000 ∧
      r.efficiency = (if whole = 0 then none else some (sum * 1000 / whole)) ∧
      r.counted = 24 * (s.ps.inForce.segmentsA + s.ps.inForce.segmentsB) ∧
      r.counters = { s.sa.counters with
        stopSeconds :=
          match s.df.stopTime with
          | some x => min 4294967295 (s.sa.counters.stopSeconds + (s.dc.runClock - x))
          | none => s.sa.counters.stopSeconds } ∧
      r.rogue = s.spindles.countP (fun p => decide (p.state = .rogue)) ∧
      r.starved = s.spindles.countP (fun p => decide (p.state = .starved)) ∧
      r.offline = s.spindles.countP (fun p => decide (p.state = .offline)) ∧
      r.slow = s.spindles.countP (fun p => !decide (p.state = .vacant) && p.slow) ∧
      t.df = { s.df with stopTime := s.df.stopTime.map (fun _ => s.dc.runClock) } ∧
      t.spindles = s.spindles.map (fun p => { p with lostShift := 0, breaks := 0 }) ∧
      (t.event 13).flag = true ∧ (t.event 13).detail = s.sa.number ∧ (∀ c, ¬ c = 13 → t.event c = s.event c) ∧
      t.dc = s.dc ∧ t.si = s.si ∧ t.pd = s.pd ∧ t.rm = s.rm ∧ t.lc = s.lc ∧ t.ps = s.ps) ∧
    exec (.readShift h 0) s = .next (s.answered h 0x49 .done (.shift 0
      { number := s.sa.number, openedAt := s.sa.openedAt, closedAt := none,
        delivered := (s.dc.frameLength - s.sa.mark) / 1000, produced := sum / 1000,
        mass := sum * s.ml.recipe.countTex10 / 10000000,
        efficiency := if whole = 0 then none else some (sum * 1000 / whole),
        counted := 24 * (s.ps.inForce.segmentsA + s.ps.inForce.segmentsB), counters := s.sa.counters,
        rogue := s.spindles.countP (fun p => decide (p.state = .rogue)),
        starved := s.spindles.countP (fun p => decide (p.state = .starved)),
        offline := s.spindles.countP (fun p => decide (p.state = .offline)),
        slow := s.spindles.countP (fun p => !decide (p.state = .vacant) && p.slow) })) ∧
    (∀ i r, 1 ≤ i → s.sa.history[i - 1]? = some r →
      exec (.readShift h i) s = .next (s.answered h 0x49 .done (.shift i r))) ∧
    (∀ i, s.sa.history.length < i →
      exec (.readShift h i) s = .next (s.answered h 0x49 .argument .empty))

/-! ### Tables, orders and events of the mill -/

/-- R139, R179, R198, R201, R206, R207: LOAD_LOTS, LOAD_POLL, LOAD_PASS and PROFILE_WRITE with a good list of items: the last item of a
key stands, clamped to the ends of its range where its rule clamps, the answer is DONE, or CLAMPED with the number of items clamped,
and nothing else of the part changes; a list with a bad item, or of a length outside its rule's bounds, is refused whole with
ARGUMENT. PROFILE_WRITE is stated while no store runs; for a store that runs see ProfileStoreIsBusyUntilItCompletes. -/
def Obligations.TablesAreLoadedWholeOrNotAtAll : Prop :=
  ∀ (h : ReqFrame) (s : State), s.takes h → h.short = false →
    let answerFor : Nat → Answer := fun c => if c = 0 then .done else .clamped c
    let low : List Nat := [40, 0, 5000, 500000, 0, 10, 1, 1, 30, 2, 30, 30, 0, 60, 100]
    let high : List Nat := [1000, 200, 40000, 12000000, 300000, 600, 60, 7, 3600, 60, 600, 600, 60, 1800, 16000]
    let goodPass : PassItem → Prop := fun i =>
      ((1 ≤ i.kind ∧ i.kind ≤ 4) ∨ (8 ≤ i.kind ∧ i.kind ≤ 14) ∨ (16 ≤ i.kind ∧ i.kind ≤ 24)) ∧
      (16 ≤ i.kind ∨ (i.entry.segment = .deny ∧ i.entry.drive = .deny ∧ i.entry.carriage = .deny ∧
        i.entry.doffer = .deny)) ∧
      ¬ i.entry.segment = .whenOut ∧ ¬ i.entry.drive = .whenOut
    let goodProfile : ProfileItem → Prop := fun i =>
      ¬ i.field = .unknown ∧ (∀ f, i.field = .recipe f → 1 ≤ f ∧ f ≤ 15) ∧ (∀ c, i.field = .lot c → c < 16)
    let outsideRange : ProfileItem → Bool := fun i =>
      match i.field with
      | .frameNumber => i.value < 1 || 250 < i.value
      | .segmentsA => i.value < 1 || 40 < i.value
      | .segmentsB => 40 < i.value
      | .pulseLength => i.value < 500 || 5000 < i.value
      | .recipe f => i.value < low.getD (f - 1) 0 || high.getD (f - 1) 0 < i.value
      | .lot _ => i.value < 100 || 4000 < i.value
      | .unknown => false
    (∀ items : List LotItem, 1 ≤ items.length → items.length ≤ 16 → (∀ i ∈ items, i.cls < 16) →
      ∃ t, exec (.loadLots h items) s = .next t ∧
        (∀ c, t.rm.lots[c]? =
          match (items.filter (fun i => decide (i.cls = c))).getLast? with
          | some i => (s.rm.lots[c]?).map (fun _ => { mass := max 100 (min 4000 i.mass), valid := i.valid })
          | none => s.rm.lots[c]?) ∧
        t = { s.answered h 0x40 (answerFor (items.countP (fun i => decide (i.mass < 100 ∨ 4000 < i.mass)))) .empty with
              rm.lots := t.rm.lots }) ∧
    (∀ items : List LotItem, ¬ (1 ≤ items.length ∧ items.length ≤ 16 ∧ ∀ i ∈ items, i.cls < 16) →
      exec (.loadLots h items) s = .next (s.answered h 0x40 .argument .empty)) ∧
    (∀ addresses : List Nat, 1 ≤ addresses.length → addresses.length ≤ 128 →
      (∀ a ∈ addresses, (1 ≤ a ∧ a ≤ 80 ∧ s.fitted a = true) ∨ (96 ≤ a ∧ a ≤ 99)) →
      exec (.loadPoll h addresses) s = .next
        { s.answered h 0x50 .done .empty with lc.schedule := addresses, lc.cursor := 1 }) ∧
    (∀ addresses : List Nat,
      ¬ (1 ≤ addresses.length ∧ addresses.length ≤ 128 ∧
        ∀ a ∈ addresses, (1 ≤ a ∧ a ≤ 80 ∧ s.fitted a = true) ∨ (96 ≤ a ∧ a ≤ 99)) →
      exec (.loadPoll h addresses) s = .next (s.answered h 0x50 .argument .empty)) ∧
    (∀ items : List PassItem, 1 ≤ items.length → items.length ≤ 32 → (∀ i ∈ items, goodPass i) →
      ∃ t, exec (.loadPass h items) s = .next t ∧
        (∀ c, t.ml.passTable[c]? =
          match (items.filter (fun i => decide (i.kind = c))).getLast? with
          | some i => (s.ml.passTable[c]?).map (fun _ => i.entry)
          | none => s.ml.passTable[c]?) ∧
        t = { s.answered h 0x04 .done .empty with ml.passTable := t.ml.passTable }) ∧
    (∀ items : List PassItem, ¬ (1 ≤ items.length ∧ items.length ≤ 32 ∧ ∀ i ∈ items, goodPass i) →
      exec (.loadPass h items) s = .next (s.answered h 0x04 .argument .empty)) ∧
    (∀ items : List ProfileItem, s.ps.busy = false → 1 ≤ items.length → items.length ≤ 40 →
      (∀ i ∈ items, goodProfile i) →
      ∃ t, exec (.profileWrite h items) s = .next t ∧
        (let last : ProfileField → Option ProfileItem := fun f =>
          (items.filter (fun i => decide (i.field = f))).getLast?
        let was := s.ps.pendingCopy
        let now := t.ps.pendingCopy
        now.frameNumber =
          (match last .frameNumber with | some i => max 1 (min 250 i.value) | none => was.frameNumber) ∧
        now.segmentsA = (match last .segmentsA with | some i => max 1 (min 40 i.value) | none => was.segmentsA) ∧
        now.segmentsB = (match last .segmentsB with | some i => min 40 i.value | none => was.segmentsB) ∧
        now.pulseLength =
          (match last .pulseLength with | some i => max 500 (min 5000 i.value) | none => was.pulseLength) ∧
        (∀ f, 1 ≤ f → f ≤ 15 → now.recipe.fields[f - 1]? =
          match last (.recipe f) with
          | some i => some (max (low.getD (f - 1) 0) (min (high.getD (f - 1) 0) i.value))
          | none => was.recipe.fields[f - 1]?) ∧
        (∀ c, now.lots[c]? =
          match last (.lot c) with
          | some i => (was.lots[c]?).map (fun _ => { mass := max 100 (min 4000 i.value), valid := i.valid })
          | none => was.lots[c]?)) ∧
        t = { s.answered h 0x09 (answerFor (items.countP outsideRange)) .empty with
              ps.pendingCopy := t.ps.pendingCopy }) ∧
    (∀ items : List ProfileItem, s.ps.busy = false →
      ¬ (1 ≤ items.length ∧ items.length ≤ 40 ∧ ∀ i ∈ items, goodProfile i) →
      exec (.profileWrite h items) s = .next (s.answered h 0x09 .argument .empty))

/-- R31, R77, R118, R154, R201: LOAD_RECIPE writes the last item of each field clamped to the field's range and answers DONE, or CLAMPED
with the number of items clamped; a full pass falls due; a settle interval that changes in SETTLING is measured from the period's
start; in SPINNING the due test is made, with DOFF_DUE raised where the doff comes due; and selection runs, so that no carriage that
may be given a PIECE stays IDLE beside a WAITING entry that has waited its age or is not passed over. A list with a bad item, or empty,
or longer than 15, is refused whole with ARGUMENT. The MODEL'S CHOICE (log 16): the order of these effects. -/
def Obligations.LoadRecipeTakesEffectOnTheBlocks : Prop :=
  ∀ (h : ReqFrame) (items : List RecipeItem) (s : State), s.takes h → h.short = false →
    let low : List Nat := [40, 0, 5000, 500000, 0, 10, 1, 1, 30, 2, 30, 30, 0, 60, 100]
    let high : List Nat := [1000, 200, 40000, 12000000, 300000, 600, 60, 7, 3600, 60, 600, 600, 60, 1800, 16000]
    let clamped := items.countP (fun i =>
      decide (i.value < low.getD (i.field - 1) 0 ∨ high.getD (i.field - 1) 0 < i.value))
    let replied := s.answered h 0x02 (if clamped = 0 then .done else .clamped clamped) .empty
    let spanNow := s.dc.frameLength - s.df.mark
    (¬ (1 ≤ items.length ∧ items.length ≤ 15 ∧ ∀ i ∈ items, 1 ≤ i.field ∧ i.field ≤ 15) →
      exec (.loadRecipe h items) s = .next (s.answered h 0x02 .argument .empty)) ∧
    (1 ≤ items.length → items.length ≤ 15 → (∀ i ∈ items, 1 ≤ i.field ∧ i.field ≤ 15) →
      ∃ t, exec (.loadRecipe h items) s = .next t ∧
        (∀ f, 1 ≤ f → f ≤ 15 → t.ml.recipe.fields[f - 1]? =
          match (items.filter (fun i => decide (i.field = f))).getLast? with
          | some i => some (max (low.getD (f - 1) 0) (min (high.getD (f - 1) 0) i.value))
          | none => s.ml.recipe.fields[f - 1]?) ∧
        t.rm = { s.rm with due := s.rm.due ++ [.full] } ∧
        (∃ notice : List OwnFrame, notice.length ≤ 1 ∧ t.ml.own = replied.ml.own ++ notice) ∧
        t.ml = { replied.ml with recipe := t.ml.recipe, own := t.ml.own, ownSeq := t.ml.ownSeq } ∧
        (∀ n, (s.spindle n).sameButDispatch (t.spindle n)) ∧
        t = { replied with
          ml := t.ml, rm := t.rm, si := t.si, pd := t.pd, df := t.df, spindles := t.spindles, events := t.events } ∧
        (¬ s.df.state = .spinning → ¬ s.si.gate = .settling →
          t = { replied with ml.recipe := t.ml.recipe, rm := t.rm }) ∧
        (¬ s.si.gate = .settling ∨ t.ml.recipe.settle = s.ml.recipe.settle → t.si = s.si) ∧
        (s.si.gate = .settling → ¬ t.ml.recipe.settle = s.ml.recipe.settle →
          let run := s.ml.recipe.settle * 1000 - s.si.settle.left
          (t.ml.recipe.settle * 1000 ≤ run →
            t.si = { s.si with gate := .opened, settle := { left := 0, running := false } } ∧
            ∀ side, ∀ e ∈ t.list side, e.status = .verifying →
              e.window = some { left := t.ml.recipe.verifyWindow * 1000, running := true }) ∧
          (run < t.ml.recipe.settle * 1000 →
            t.si = { s.si with settle := { left := t.ml.recipe.settle * 1000 - run, running := true } })) ∧
        (let limit := t.ml.recipe.doffTarget + (if s.df.inhibit then t.ml.recipe.doffOverrun else 0)
        let due := s.df.state = .spinning ∧ limit ≤ spanNow
        (¬ due → t.df = s.df ∧ t.events = s.events ∧ t.ml.own = replied.ml.own) ∧
        (due → s.events.length = 16 →
          (t.event 6).flag = true ∧ (t.event 6).detail = (if s.df.inhibit then 1 else 0) ∧
          (∀ c, ¬ c = 6 → t.event c = s.event c) ∧
          t.df.state =
            (if (s.carriage .A).away = true ∧ (s.carriage .B).away = true then .stopping else .due)) ∧
        ((∀ x, ∀ e ∈ s.list x, sideOf e.spindle = x) →
          (∀ side, t.df.state = .spinning → t.si.gate = .opened → t.pd.globalHold = false →
            (t.carriage side).state = .idle → ∀ e ∈ t.list side, e.status = .waiting →
            e.passedOver = true ∧ t.dc.runClock - e.admittedAt < t.ml.recipe.ageLimit) ∧
          (∀ side, s.df.state = .spinning → ¬ due → t.si.gate = .opened → s.pd.globalHold = false →
            (s.carriage side).state = .idle → (∃ e ∈ s.list side, e.status = .waiting ∧
              (e.passedOver = false ∨ t.ml.recipe.ageLimit ≤ s.dc.runClock - e.admittedAt)) →
            (t.carriage side).state = .assigned ∧
            ∃ e ∈ s.list side, e.status = .waiting ∧
              (t.carriage side).slot =
                some { kind := .piece e.spindle (positionOf e.spindle), number := (s.carriage side).nextNumber,
                       collected := false }))))

/-- R187, R188, R199: STATION_ORDER: refused with ARGUMENT for a bad form, a kind that is no order or an address that names no fitted
station, with DENIED where the pass table's field for the station's class does not permit it (DENY, ALLOW_WHEN_OUT with the carriage
not OUT or the Doff Controller in neither SPINNING nor HALTED, ALLOW_WHEN_STOPPED outside HALTED, BLOCKED, SUSPENDED and FAULTED), and with MAILBOX_FULL and MAILBOX_OVERRUN where the mailbox holds an
order; otherwise the order goes into the mailbox with its next number. MAILBOX_CLEAR empties it. The request code in the order's
REPLY is left open by the spec (log 6), and the statement holds for any. -/
def Obligations.StationOrdersGoThroughThePassTableToTheMailbox : Prop :=
  (∃ code : Nat, ∀ (h : ReqFrame) (s : State), s.takes h →
    let answer : Answer → State := fun a => s.answeredAs (orderFrame h) h code a .empty
    (h.raw.length < 3 → exec (.stationOrder h) s = .next (answer .argument)) ∧
    (∀ a k len body, h.raw = BitVec.ofNat 8 a :: BitVec.ofNat 8 k :: BitVec.ofNat 8 len :: body → a < 256 → k < 256 →
      len < 256 →
      let station := (1 ≤ a ∧ a ≤ 80 ∧ s.fitted a = true) ∨ (96 ≤ a ∧ a ≤ 99)
      let entry := s.ml.passTable.getD k
        { segment := .deny, drive := .deny, carriage := .deny, doffer := .deny, up := false }
      let perm := if a ≤ 80 then entry.segment else if a = 96 then entry.drive
        else if a = 99 then entry.doffer else entry.carriage
      let permitted := perm = .allow ∨
        (perm = .whenOut ∧
          ((a = 97 ∧ (s.carriage .A).state = .out) ∨ (a = 98 ∧ (s.carriage .B).state = .out) ∨
            (a = 99 ∧ (s.df.state = .spinning ∨ s.df.state = .halted)))) ∨
        (perm = .whenStopped ∧
          (s.df.state = .halted ∨ s.df.state = .blocked ∨ s.df.state = .suspended ∨ s.df.state = .faulted))
      (64 < len ∨ ¬ body.length = len ∨ ¬ (0x10 ≤ k ∧ k ≤ 0x18) ∨ ¬ station →
        exec (.stationOrder h) s = .next (answer .argument)) ∧
      (len ≤ 64 → body.length = len → 0x10 ≤ k → k ≤ 0x18 → station → ¬ permitted →
        exec (.stationOrder h) s = .next (answer .denied)) ∧
      (len ≤ 64 → body.length = len → 0x10 ≤ k → k ≤ 0x18 → station → permitted →
        (s.station a).mailbox.isSome = true → s.events.length = 16 → (∃ e ∈ s.lc.stations, e.address = a) →
        ∃ t, exec (.stationOrder h) s = .next t ∧
          t.lc = { s.lc with stations := t.lc.stations } ∧ t.station a = { s.station a with overrun := true } ∧
          (∀ b, ¬ b = a → t.station b = s.station b) ∧
          (t.event 12).flag = true ∧ (t.event 12).detail = a ∧
          (∃ notice, t.ml.own = (answer .mailboxFull).ml.own ++ notice)) ∧
      (len ≤ 64 → body.length = len → 0x10 ≤ k → k ≤ 0x18 → station → permitted →
        (s.station a).mailbox = none → (∃ e ∈ s.lc.stations, e.address = a) →
        ∃ t, exec (.stationOrder h) s = .next t ∧
          t.station a =
            { s.station a with
              mailbox := some { kind := k, payload := body, number := (s.station a).mailboxNext },
              mailboxNext := ((s.station a).mailboxNext + 1) % 256 } ∧
          (∀ b, ¬ b = a → t.station b = s.station b) ∧
          t = { answer .done with lc.stations := t.lc.stations }))) ∧
  (∀ (h : ReqFrame) (a : Nat) (s : State), s.takes h → h.short = false →
    (¬ ((1 ≤ a ∧ a ≤ 80 ∧ s.fitted a = true) ∨ (96 ≤ a ∧ a ≤ 99)) →
      exec (.mailboxClear h a) s = .next (s.answered h 0x53 .argument .empty)) ∧
    ((1 ≤ a ∧ a ≤ 80 ∧ s.fitted a = true) ∨ (96 ≤ a ∧ a ≤ 99) → (∃ e ∈ s.lc.stations, e.address = a) →
      ∃ t, exec (.mailboxClear h a) s = .next t ∧
        t.station a = { s.station a with mailbox := none, overrun := false } ∧
        (∀ b, ¬ b = a → t.station b = s.station b) ∧
        t = { s.answered h 0x53 .done .empty with lc.stations := t.lc.stations }))

/-- R197, R203, R205: CLEAR_EVENTS clears the flag, count, notice pending and notice given of each class it names and keeps details and
masks. SET_MASK writes all sixteen mask bits and drops a closed class's notice pending. Each class that opens with its flag set and
notice given clear gets one NOTICE, in ascending class number behind the REPLY, with the class's flag, count and detail as they stand,
the run clock and the next own sequence number, while the own queue has room, and notice pending from there on. A SET_MASK without the
bit of every class is refused with ARGUMENT. -/
def Obligations.MasksAndClearsActByClass : Prop :=
  (∀ (h : ReqFrame) (classes : List Nat) (s : State), s.takes h → h.short = false →
    ∃ t, exec (.clearEvents h classes) s = .next t ∧
      (∀ c, c ∈ classes → c < s.events.length →
        t.event c = { s.event c with flag := false, count := 0, pending := false, given := false }) ∧
      (∀ c, c ∉ classes → t.event c = s.event c) ∧
      t = { s.answered h 0x08 .done .empty with events := t.events }) ∧
  (∀ (h : ReqFrame) (masks : List Bool) (s : State), s.takes h → h.short = false → masks.length < 16 →
    exec (.setMask h masks) s = .next (s.answered h 0x06 .argument .empty)) ∧
  (∀ (h : ReqFrame) (masks : List Bool) (s : State), s.takes h → h.short = false → 16 ≤ masks.length →
    s.events.length = 16 → s.ml.ownSeq < 65536 →
    let replied := s.answered h 0x06 .done .empty
    let opens : Nat → Bool := fun c =>
      decide (masks[c]? = some true ∧ (s.event c).mask = false ∧ (s.event c).flag = true ∧ (s.event c).given = false)
    let noticed := ((List.range 16).filter opens).take (16 - replied.ml.own.length)
    let notices : List OwnFrame := noticed.zipIdx.map (fun x =>
      { dest := 0, src := s.frameNumber, seq := (s.ml.ownSeq + x.2) % 65536,
        body := .notice x.1 true (s.event x.1).count (s.event x.1).detail s.dc.runClock })
    ∃ t, exec (.setMask h masks) s = .next t ∧
      (∀ c m, c < 16 → masks[c]? = some m → t.event c =
        { s.event c with
          mask := m
          pending := if m = false then false else if opens c = true then decide (c ∉ noticed) else (s.event c).pending
          given := (s.event c).given || decide (c ∈ noticed) }) ∧
      t = { replied with
        events := t.events
        ml.own := replied.ml.own ++ notices
        ml.ownSeq := (s.ml.ownSeq + notices.length) % 65536 })

/-! ### Invariants that every step keeps -/

/-- R53: a step never takes the frame length back, except a power-on (and, in the model, the loss of the supply, log 3), and keeps
every mark at most the frame length. -/
def Obligations.EveryStepKeepsTheMarksLaw : Prop :=
  ∀ s t : State, MarksLaw s → step s = .next t →
    MarksLaw t ∧
    (¬ s.pending.head? = some .powerOn → ¬ s.pending.head? = some .powerLoss → s.dc.frameLength ≤ t.dc.frameLength)

/-- R57: the loss law is kept by every step; and where it holds, for every spindle with its break mark as R5 requires the length run,
the length lost and the open loss since the shift mark, since the doff mark and since a present fill mark make up the delivered
length since that mark, and the efficiency of the shift never passes 1000. -/
def Obligations.EveryStepKeepsTheLossLaw : Prop :=
  ∀ s t : State, MarksLaw s → LossLaw s → step s = .next t →
    LossLaw t ∧
    (∀ p ∈ t.spindles, p.state.isDown = p.breakMark.isSome →
      let len := t.dc.frameLength
      producedInShift t p + p.lostShift + openSince p.breakMark len t.sa.mark = len - t.sa.mark ∧
      copLength t p + p.lostDoff + openSince p.breakMark len t.df.mark = len - t.df.mark ∧
      ∀ f ∈ p.fill, runningSinceFill p f len + p.lostFill + openSince p.breakMark len f.mark = len - f.mark) ∧
    (ListLaw t → ∀ e, shiftEfficiency t = some e → e ≤ 1000)

/-- R91, R120: every step keeps the agreement of carriage states with their slots, and in STOPPING, DOFFING, SUSPENDED, FAULTED,
BLOCKED and RESTARTING no carriage has an outstanding PIECE. -/
def Obligations.EveryStepKeepsPiecesOutOfTheDoff : Prop :=
  ∀ s t : State, DoffLaw s → step s = .next t →
    DoffLaw t ∧
    (t.df.state = .stopping ∨ t.df.state = .doffing ∨ t.df.state = .suspended ∨ t.df.state = .faulted ∨
        t.df.state = .blocked ∨ t.df.state = .restarting →
      ∀ side o, (t.carriage side).slot = some o → ¬ o.kind.isPiece = true)

/-- R4, R5, R10, R67, R91, R92: every step keeps the geometry, the break lists, the spindle records and the carriages in agreement. -/
def Obligations.EveryStepKeepsTheListLaw : Prop :=
  ∀ s t : State, ListLaw s → step s = .next t → ListLaw t

/-- R69: every step keeps every unheld DOWN spindle in its list while the list has room. -/
def Obligations.EveryStepKeepsTheRoomLaw : Prop :=
  ∀ s t : State, ListLaw s → RoomLaw s → step s = .next t → RoomLaw t

/-- R66, R165, R192 and the sizes of the tables: every step keeps the tables at their sizes and the lists, the history and the three
queues within their bounds, and the passes that a READ_ROVING waits for among those that are due (log 18). -/
def Obligations.EveryStepKeepsTheBufferLaw : Prop :=
  ∀ s t : State, BufferLaw s → step s = .next t → BufferLaw t

/-- R150: every step keeps the roving request queue free of repeats and in the order of the recorded forecasts. -/
def Obligations.EveryStepKeepsTheRovingLaw : Prop :=
  ∀ s t : State, BufferLaw s → RovingLaw s → step s = .next t → RovingLaw t

/-! ### Formats -/

/-- R213, R214, R215: a well-formed mill frame, and a line message whose fields fit, are read back from their bytes exactly, whatever
bytes without an opening mark go before; and nothing is read from bytes without one. On the line that such bytes are skipped is the
MODEL'S reading (log 22). -/
def Obligations.FramesAndMessagesReadBackAsSent : Prop :=
  (∀ (f : RawFrame) (noise : List Byte), f.wf = true → 0xC3#8 ∉ noise → parseMillFrame (noise ++ RawFrame.encode f) = some f) ∧
  (∀ (m : LineMessage) (noise : List Byte), m.dest < 256 → m.src < 256 → m.kind < 256 → m.orderKind < 256 →
    m.orderNumber < 256 → m.reportNumber < 256 → m.payload.length ≤ 64 → 0xA5#8 ∉ noise →
    parseLineMessage (noise ++ LineMessage.encode m) = some m) ∧
  (∀ noise : List Byte, (0xC3#8 ∉ noise → parseMillFrame noise = none) ∧ (0xA5#8 ∉ noise → parseLineMessage noise = none))
end

