-- ==== Sys2Proof/Laws/State.lean ====
section
/-! SUPPORT. One lemma for each field of the state and each named update that leaves it alone, and the reading of what an
update writes. -/

namespace Sys2Proof.Machine


/-! ### modSpindle -/

@[simp] theorem modSpindle_powered (n : Nat) (f : Spindle → Spindle) (s : State) : (modSpindle n f s).powered = s.powered := by unfold modSpindle; split <;> rfl
@[simp] theorem modSpindle_ps (n : Nat) (f : Spindle → Spindle) (s : State) : (modSpindle n f s).ps = s.ps := by unfold modSpindle; split <;> rfl
@[simp] theorem modSpindle_dc (n : Nat) (f : Spindle → Spindle) (s : State) : (modSpindle n f s).dc = s.dc := by unfold modSpindle; split <;> rfl
@[simp] theorem modSpindle_si (n : Nat) (f : Spindle → Spindle) (s : State) : (modSpindle n f s).si = s.si := by unfold modSpindle; split <;> rfl
@[simp] theorem modSpindle_pd (n : Nat) (f : Spindle → Spindle) (s : State) : (modSpindle n f s).pd = s.pd := by unfold modSpindle; split <;> rfl
@[simp] theorem modSpindle_df (n : Nat) (f : Spindle → Spindle) (s : State) : (modSpindle n f s).df = s.df := by unfold modSpindle; split <;> rfl
@[simp] theorem modSpindle_rm (n : Nat) (f : Spindle → Spindle) (s : State) : (modSpindle n f s).rm = s.rm := by unfold modSpindle; split <;> rfl
@[simp] theorem modSpindle_sa (n : Nat) (f : Spindle → Spindle) (s : State) : (modSpindle n f s).sa = s.sa := by unfold modSpindle; split <;> rfl
@[simp] theorem modSpindle_lc (n : Nat) (f : Spindle → Spindle) (s : State) : (modSpindle n f s).lc = s.lc := by unfold modSpindle; split <;> rfl
@[simp] theorem modSpindle_ml (n : Nat) (f : Spindle → Spindle) (s : State) : (modSpindle n f s).ml = s.ml := by unfold modSpindle; split <;> rfl
@[simp] theorem modSpindle_events (n : Nat) (f : Spindle → Spindle) (s : State) : (modSpindle n f s).events = s.events := by unfold modSpindle; split <;> rfl
@[simp] theorem modSpindle_overtaken (n : Nat) (f : Spindle → Spindle) (s : State) : (modSpindle n f s).overtaken = s.overtaken := by unfold modSpindle; split <;> rfl
@[simp] theorem modSpindle_freeCount (n : Nat) (f : Spindle → Spindle) (s : State) : (modSpindle n f s).freeCount = s.freeCount := by unfold modSpindle; split <;> rfl
@[simp] theorem modSpindle_pending (n : Nat) (f : Spindle → Spindle) (s : State) : (modSpindle n f s).pending = s.pending := by unfold modSpindle; split <;> rfl

/-! ### modAllSpindles -/

@[simp] theorem modAllSpindles_powered (f : Spindle → Spindle) (s : State) : (modAllSpindles f s).powered = s.powered := rfl
@[simp] theorem modAllSpindles_ps (f : Spindle → Spindle) (s : State) : (modAllSpindles f s).ps = s.ps := rfl
@[simp] theorem modAllSpindles_dc (f : Spindle → Spindle) (s : State) : (modAllSpindles f s).dc = s.dc := rfl
@[simp] theorem modAllSpindles_si (f : Spindle → Spindle) (s : State) : (modAllSpindles f s).si = s.si := rfl
@[simp] theorem modAllSpindles_pd (f : Spindle → Spindle) (s : State) : (modAllSpindles f s).pd = s.pd := rfl
@[simp] theorem modAllSpindles_df (f : Spindle → Spindle) (s : State) : (modAllSpindles f s).df = s.df := rfl
@[simp] theorem modAllSpindles_rm (f : Spindle → Spindle) (s : State) : (modAllSpindles f s).rm = s.rm := rfl
@[simp] theorem modAllSpindles_sa (f : Spindle → Spindle) (s : State) : (modAllSpindles f s).sa = s.sa := rfl
@[simp] theorem modAllSpindles_lc (f : Spindle → Spindle) (s : State) : (modAllSpindles f s).lc = s.lc := rfl
@[simp] theorem modAllSpindles_ml (f : Spindle → Spindle) (s : State) : (modAllSpindles f s).ml = s.ml := rfl
@[simp] theorem modAllSpindles_events (f : Spindle → Spindle) (s : State) : (modAllSpindles f s).events = s.events := rfl
@[simp] theorem modAllSpindles_overtaken (f : Spindle → Spindle) (s : State) : (modAllSpindles f s).overtaken = s.overtaken := rfl
@[simp] theorem modAllSpindles_freeCount (f : Spindle → Spindle) (s : State) : (modAllSpindles f s).freeCount = s.freeCount := rfl
@[simp] theorem modAllSpindles_pending (f : Spindle → Spindle) (s : State) : (modAllSpindles f s).pending = s.pending := rfl

/-! ### setListStatus -/

@[simp] theorem setListStatus_powered (n : Nat) (x : ListStatus) (s : State) : (setListStatus n x s).powered = s.powered := by unfold setListStatus modSpindle; split <;> rfl
@[simp] theorem setListStatus_ps (n : Nat) (x : ListStatus) (s : State) : (setListStatus n x s).ps = s.ps := by unfold setListStatus modSpindle; split <;> rfl
@[simp] theorem setListStatus_dc (n : Nat) (x : ListStatus) (s : State) : (setListStatus n x s).dc = s.dc := by unfold setListStatus modSpindle; split <;> rfl
@[simp] theorem setListStatus_si (n : Nat) (x : ListStatus) (s : State) : (setListStatus n x s).si = s.si := by unfold setListStatus modSpindle; split <;> rfl
@[simp] theorem setListStatus_pd (n : Nat) (x : ListStatus) (s : State) : (setListStatus n x s).pd = s.pd := by unfold setListStatus modSpindle; split <;> rfl
@[simp] theorem setListStatus_df (n : Nat) (x : ListStatus) (s : State) : (setListStatus n x s).df = s.df := by unfold setListStatus modSpindle; split <;> rfl
@[simp] theorem setListStatus_rm (n : Nat) (x : ListStatus) (s : State) : (setListStatus n x s).rm = s.rm := by unfold setListStatus modSpindle; split <;> rfl
@[simp] theorem setListStatus_sa (n : Nat) (x : ListStatus) (s : State) : (setListStatus n x s).sa = s.sa := by unfold setListStatus modSpindle; split <;> rfl
@[simp] theorem setListStatus_lc (n : Nat) (x : ListStatus) (s : State) : (setListStatus n x s).lc = s.lc := by unfold setListStatus modSpindle; split <;> rfl
@[simp] theorem setListStatus_ml (n : Nat) (x : ListStatus) (s : State) : (setListStatus n x s).ml = s.ml := by unfold setListStatus modSpindle; split <;> rfl
@[simp] theorem setListStatus_events (n : Nat) (x : ListStatus) (s : State) : (setListStatus n x s).events = s.events := by unfold setListStatus modSpindle; split <;> rfl
@[simp] theorem setListStatus_overtaken (n : Nat) (x : ListStatus) (s : State) : (setListStatus n x s).overtaken = s.overtaken := by unfold setListStatus modSpindle; split <;> rfl
@[simp] theorem setListStatus_freeCount (n : Nat) (x : ListStatus) (s : State) : (setListStatus n x s).freeCount = s.freeCount := by unfold setListStatus modSpindle; split <;> rfl
@[simp] theorem setListStatus_pending (n : Nat) (x : ListStatus) (s : State) : (setListStatus n x s).pending = s.pending := by unfold setListStatus modSpindle; split <;> rfl

/-! ### modCell -/

@[simp] theorem modCell_powered (n : Nat) (f : Cell → Cell) (s : State) : (modCell n f s).powered = s.powered := by unfold modCell; split <;> rfl
@[simp] theorem modCell_ps (n : Nat) (f : Cell → Cell) (s : State) : (modCell n f s).ps = s.ps := by unfold modCell; split <;> rfl
@[simp] theorem modCell_dc (n : Nat) (f : Cell → Cell) (s : State) : (modCell n f s).dc = s.dc := by unfold modCell; split <;> rfl
@[simp] theorem modCell_spindles (n : Nat) (f : Cell → Cell) (s : State) : (modCell n f s).spindles = s.spindles := by unfold modCell; split <;> rfl
@[simp] theorem modCell_pd (n : Nat) (f : Cell → Cell) (s : State) : (modCell n f s).pd = s.pd := by unfold modCell; split <;> rfl
@[simp] theorem modCell_df (n : Nat) (f : Cell → Cell) (s : State) : (modCell n f s).df = s.df := by unfold modCell; split <;> rfl
@[simp] theorem modCell_rm (n : Nat) (f : Cell → Cell) (s : State) : (modCell n f s).rm = s.rm := by unfold modCell; split <;> rfl
@[simp] theorem modCell_sa (n : Nat) (f : Cell → Cell) (s : State) : (modCell n f s).sa = s.sa := by unfold modCell; split <;> rfl
@[simp] theorem modCell_lc (n : Nat) (f : Cell → Cell) (s : State) : (modCell n f s).lc = s.lc := by unfold modCell; split <;> rfl
@[simp] theorem modCell_ml (n : Nat) (f : Cell → Cell) (s : State) : (modCell n f s).ml = s.ml := by unfold modCell; split <;> rfl
@[simp] theorem modCell_events (n : Nat) (f : Cell → Cell) (s : State) : (modCell n f s).events = s.events := by unfold modCell; split <;> rfl
@[simp] theorem modCell_overtaken (n : Nat) (f : Cell → Cell) (s : State) : (modCell n f s).overtaken = s.overtaken := by unfold modCell; split <;> rfl
@[simp] theorem modCell_freeCount (n : Nat) (f : Cell → Cell) (s : State) : (modCell n f s).freeCount = s.freeCount := by unfold modCell; split <;> rfl
@[simp] theorem modCell_pending (n : Nat) (f : Cell → Cell) (s : State) : (modCell n f s).pending = s.pending := by unfold modCell; split <;> rfl

/-! ### modCounts -/

@[simp] theorem modCounts_powered (k : Nat) (f : SegmentCounts → SegmentCounts) (s : State) : (modCounts k f s).powered = s.powered := by unfold modCounts; split <;> rfl
@[simp] theorem modCounts_ps (k : Nat) (f : SegmentCounts → SegmentCounts) (s : State) : (modCounts k f s).ps = s.ps := by unfold modCounts; split <;> rfl
@[simp] theorem modCounts_dc (k : Nat) (f : SegmentCounts → SegmentCounts) (s : State) : (modCounts k f s).dc = s.dc := by unfold modCounts; split <;> rfl
@[simp] theorem modCounts_spindles (k : Nat) (f : SegmentCounts → SegmentCounts) (s : State) : (modCounts k f s).spindles = s.spindles := by unfold modCounts; split <;> rfl
@[simp] theorem modCounts_pd (k : Nat) (f : SegmentCounts → SegmentCounts) (s : State) : (modCounts k f s).pd = s.pd := by unfold modCounts; split <;> rfl
@[simp] theorem modCounts_df (k : Nat) (f : SegmentCounts → SegmentCounts) (s : State) : (modCounts k f s).df = s.df := by unfold modCounts; split <;> rfl
@[simp] theorem modCounts_rm (k : Nat) (f : SegmentCounts → SegmentCounts) (s : State) : (modCounts k f s).rm = s.rm := by unfold modCounts; split <;> rfl
@[simp] theorem modCounts_sa (k : Nat) (f : SegmentCounts → SegmentCounts) (s : State) : (modCounts k f s).sa = s.sa := by unfold modCounts; split <;> rfl
@[simp] theorem modCounts_lc (k : Nat) (f : SegmentCounts → SegmentCounts) (s : State) : (modCounts k f s).lc = s.lc := by unfold modCounts; split <;> rfl
@[simp] theorem modCounts_ml (k : Nat) (f : SegmentCounts → SegmentCounts) (s : State) : (modCounts k f s).ml = s.ml := by unfold modCounts; split <;> rfl
@[simp] theorem modCounts_events (k : Nat) (f : SegmentCounts → SegmentCounts) (s : State) : (modCounts k f s).events = s.events := by unfold modCounts; split <;> rfl
@[simp] theorem modCounts_overtaken (k : Nat) (f : SegmentCounts → SegmentCounts) (s : State) : (modCounts k f s).overtaken = s.overtaken := by unfold modCounts; split <;> rfl
@[simp] theorem modCounts_freeCount (k : Nat) (f : SegmentCounts → SegmentCounts) (s : State) : (modCounts k f s).freeCount = s.freeCount := by unfold modCounts; split <;> rfl
@[simp] theorem modCounts_pending (k : Nat) (f : SegmentCounts → SegmentCounts) (s : State) : (modCounts k f s).pending = s.pending := by unfold modCounts; split <;> rfl

/-! ### setList -/

@[simp] theorem setList_powered (side : Side) (l : List Entry) (s : State) : (setList side l s).powered = s.powered := rfl
@[simp] theorem setList_ps (side : Side) (l : List Entry) (s : State) : (setList side l s).ps = s.ps := rfl
@[simp] theorem setList_dc (side : Side) (l : List Entry) (s : State) : (setList side l s).dc = s.dc := rfl
@[simp] theorem setList_spindles (side : Side) (l : List Entry) (s : State) : (setList side l s).spindles = s.spindles := rfl
@[simp] theorem setList_si (side : Side) (l : List Entry) (s : State) : (setList side l s).si = s.si := rfl
@[simp] theorem setList_df (side : Side) (l : List Entry) (s : State) : (setList side l s).df = s.df := rfl
@[simp] theorem setList_rm (side : Side) (l : List Entry) (s : State) : (setList side l s).rm = s.rm := rfl
@[simp] theorem setList_sa (side : Side) (l : List Entry) (s : State) : (setList side l s).sa = s.sa := rfl
@[simp] theorem setList_lc (side : Side) (l : List Entry) (s : State) : (setList side l s).lc = s.lc := rfl
@[simp] theorem setList_ml (side : Side) (l : List Entry) (s : State) : (setList side l s).ml = s.ml := rfl
@[simp] theorem setList_events (side : Side) (l : List Entry) (s : State) : (setList side l s).events = s.events := rfl
@[simp] theorem setList_overtaken (side : Side) (l : List Entry) (s : State) : (setList side l s).overtaken = s.overtaken := rfl
@[simp] theorem setList_freeCount (side : Side) (l : List Entry) (s : State) : (setList side l s).freeCount = s.freeCount := rfl
@[simp] theorem setList_pending (side : Side) (l : List Entry) (s : State) : (setList side l s).pending = s.pending := rfl

/-! ### modCarriage -/

@[simp] theorem modCarriage_powered (side : Side) (f : Carriage → Carriage) (s : State) : (modCarriage side f s).powered = s.powered := rfl
@[simp] theorem modCarriage_ps (side : Side) (f : Carriage → Carriage) (s : State) : (modCarriage side f s).ps = s.ps := rfl
@[simp] theorem modCarriage_dc (side : Side) (f : Carriage → Carriage) (s : State) : (modCarriage side f s).dc = s.dc := rfl
@[simp] theorem modCarriage_spindles (side : Side) (f : Carriage → Carriage) (s : State) : (modCarriage side f s).spindles = s.spindles := rfl
@[simp] theorem modCarriage_si (side : Side) (f : Carriage → Carriage) (s : State) : (modCarriage side f s).si = s.si := rfl
@[simp] theorem modCarriage_df (side : Side) (f : Carriage → Carriage) (s : State) : (modCarriage side f s).df = s.df := rfl
@[simp] theorem modCarriage_rm (side : Side) (f : Carriage → Carriage) (s : State) : (modCarriage side f s).rm = s.rm := rfl
@[simp] theorem modCarriage_sa (side : Side) (f : Carriage → Carriage) (s : State) : (modCarriage side f s).sa = s.sa := rfl
@[simp] theorem modCarriage_lc (side : Side) (f : Carriage → Carriage) (s : State) : (modCarriage side f s).lc = s.lc := rfl
@[simp] theorem modCarriage_ml (side : Side) (f : Carriage → Carriage) (s : State) : (modCarriage side f s).ml = s.ml := rfl
@[simp] theorem modCarriage_events (side : Side) (f : Carriage → Carriage) (s : State) : (modCarriage side f s).events = s.events := rfl
@[simp] theorem modCarriage_overtaken (side : Side) (f : Carriage → Carriage) (s : State) : (modCarriage side f s).overtaken = s.overtaken := rfl
@[simp] theorem modCarriage_freeCount (side : Side) (f : Carriage → Carriage) (s : State) : (modCarriage side f s).freeCount = s.freeCount := rfl
@[simp] theorem modCarriage_pending (side : Side) (f : Carriage → Carriage) (s : State) : (modCarriage side f s).pending = s.pending := rfl

/-! ### modEntry -/

@[simp] theorem modEntry_powered (n : Nat) (f : Entry → Entry) (s : State) : (modEntry n f s).powered = s.powered := rfl
@[simp] theorem modEntry_ps (n : Nat) (f : Entry → Entry) (s : State) : (modEntry n f s).ps = s.ps := rfl
@[simp] theorem modEntry_dc (n : Nat) (f : Entry → Entry) (s : State) : (modEntry n f s).dc = s.dc := rfl
@[simp] theorem modEntry_spindles (n : Nat) (f : Entry → Entry) (s : State) : (modEntry n f s).spindles = s.spindles := rfl
@[simp] theorem modEntry_si (n : Nat) (f : Entry → Entry) (s : State) : (modEntry n f s).si = s.si := rfl
@[simp] theorem modEntry_df (n : Nat) (f : Entry → Entry) (s : State) : (modEntry n f s).df = s.df := rfl
@[simp] theorem modEntry_rm (n : Nat) (f : Entry → Entry) (s : State) : (modEntry n f s).rm = s.rm := rfl
@[simp] theorem modEntry_sa (n : Nat) (f : Entry → Entry) (s : State) : (modEntry n f s).sa = s.sa := rfl
@[simp] theorem modEntry_lc (n : Nat) (f : Entry → Entry) (s : State) : (modEntry n f s).lc = s.lc := rfl
@[simp] theorem modEntry_ml (n : Nat) (f : Entry → Entry) (s : State) : (modEntry n f s).ml = s.ml := rfl
@[simp] theorem modEntry_events (n : Nat) (f : Entry → Entry) (s : State) : (modEntry n f s).events = s.events := rfl
@[simp] theorem modEntry_overtaken (n : Nat) (f : Entry → Entry) (s : State) : (modEntry n f s).overtaken = s.overtaken := rfl
@[simp] theorem modEntry_freeCount (n : Nat) (f : Entry → Entry) (s : State) : (modEntry n f s).freeCount = s.freeCount := rfl
@[simp] theorem modEntry_pending (n : Nat) (f : Entry → Entry) (s : State) : (modEntry n f s).pending = s.pending := rfl

/-! ### dropEntry -/

@[simp] theorem dropEntry_powered (n : Nat) (s : State) : (dropEntry n s).powered = s.powered := rfl
@[simp] theorem dropEntry_ps (n : Nat) (s : State) : (dropEntry n s).ps = s.ps := rfl
@[simp] theorem dropEntry_dc (n : Nat) (s : State) : (dropEntry n s).dc = s.dc := rfl
@[simp] theorem dropEntry_spindles (n : Nat) (s : State) : (dropEntry n s).spindles = s.spindles := rfl
@[simp] theorem dropEntry_si (n : Nat) (s : State) : (dropEntry n s).si = s.si := rfl
@[simp] theorem dropEntry_df (n : Nat) (s : State) : (dropEntry n s).df = s.df := rfl
@[simp] theorem dropEntry_rm (n : Nat) (s : State) : (dropEntry n s).rm = s.rm := rfl
@[simp] theorem dropEntry_sa (n : Nat) (s : State) : (dropEntry n s).sa = s.sa := rfl
@[simp] theorem dropEntry_lc (n : Nat) (s : State) : (dropEntry n s).lc = s.lc := rfl
@[simp] theorem dropEntry_ml (n : Nat) (s : State) : (dropEntry n s).ml = s.ml := rfl
@[simp] theorem dropEntry_events (n : Nat) (s : State) : (dropEntry n s).events = s.events := rfl
@[simp] theorem dropEntry_overtaken (n : Nat) (s : State) : (dropEntry n s).overtaken = s.overtaken := rfl
@[simp] theorem dropEntry_freeCount (n : Nat) (s : State) : (dropEntry n s).freeCount = s.freeCount := rfl
@[simp] theorem dropEntry_pending (n : Nat) (s : State) : (dropEntry n s).pending = s.pending := rfl

/-! ### modAllEntries -/

@[simp] theorem modAllEntries_powered (f : Entry → Entry) (s : State) : (modAllEntries f s).powered = s.powered := rfl
@[simp] theorem modAllEntries_ps (f : Entry → Entry) (s : State) : (modAllEntries f s).ps = s.ps := rfl
@[simp] theorem modAllEntries_dc (f : Entry → Entry) (s : State) : (modAllEntries f s).dc = s.dc := rfl
@[simp] theorem modAllEntries_spindles (f : Entry → Entry) (s : State) : (modAllEntries f s).spindles = s.spindles := rfl
@[simp] theorem modAllEntries_si (f : Entry → Entry) (s : State) : (modAllEntries f s).si = s.si := rfl
@[simp] theorem modAllEntries_df (f : Entry → Entry) (s : State) : (modAllEntries f s).df = s.df := rfl
@[simp] theorem modAllEntries_rm (f : Entry → Entry) (s : State) : (modAllEntries f s).rm = s.rm := rfl
@[simp] theorem modAllEntries_sa (f : Entry → Entry) (s : State) : (modAllEntries f s).sa = s.sa := rfl
@[simp] theorem modAllEntries_lc (f : Entry → Entry) (s : State) : (modAllEntries f s).lc = s.lc := rfl
@[simp] theorem modAllEntries_ml (f : Entry → Entry) (s : State) : (modAllEntries f s).ml = s.ml := rfl
@[simp] theorem modAllEntries_events (f : Entry → Entry) (s : State) : (modAllEntries f s).events = s.events := rfl
@[simp] theorem modAllEntries_overtaken (f : Entry → Entry) (s : State) : (modAllEntries f s).overtaken = s.overtaken := rfl
@[simp] theorem modAllEntries_freeCount (f : Entry → Entry) (s : State) : (modAllEntries f s).freeCount = s.freeCount := rfl
@[simp] theorem modAllEntries_pending (f : Entry → Entry) (s : State) : (modAllEntries f s).pending = s.pending := rfl

/-! ### emptySlot -/

@[simp] theorem emptySlot_powered (side : Side) (s : State) : (emptySlot side s).powered = s.powered := rfl
@[simp] theorem emptySlot_ps (side : Side) (s : State) : (emptySlot side s).ps = s.ps := rfl
@[simp] theorem emptySlot_dc (side : Side) (s : State) : (emptySlot side s).dc = s.dc := rfl
@[simp] theorem emptySlot_spindles (side : Side) (s : State) : (emptySlot side s).spindles = s.spindles := rfl
@[simp] theorem emptySlot_si (side : Side) (s : State) : (emptySlot side s).si = s.si := rfl
@[simp] theorem emptySlot_df (side : Side) (s : State) : (emptySlot side s).df = s.df := rfl
@[simp] theorem emptySlot_rm (side : Side) (s : State) : (emptySlot side s).rm = s.rm := rfl
@[simp] theorem emptySlot_sa (side : Side) (s : State) : (emptySlot side s).sa = s.sa := rfl
@[simp] theorem emptySlot_lc (side : Side) (s : State) : (emptySlot side s).lc = s.lc := rfl
@[simp] theorem emptySlot_ml (side : Side) (s : State) : (emptySlot side s).ml = s.ml := rfl
@[simp] theorem emptySlot_events (side : Side) (s : State) : (emptySlot side s).events = s.events := rfl
@[simp] theorem emptySlot_overtaken (side : Side) (s : State) : (emptySlot side s).overtaken = s.overtaken := rfl
@[simp] theorem emptySlot_freeCount (side : Side) (s : State) : (emptySlot side s).freeCount = s.freeCount := rfl
@[simp] theorem emptySlot_pending (side : Side) (s : State) : (emptySlot side s).pending = s.pending := rfl

/-! ### placeOrder -/

@[simp] theorem placeOrder_powered (side : Side) (k : OrderKind) (s : State) : (placeOrder side k s).powered = s.powered := rfl
@[simp] theorem placeOrder_ps (side : Side) (k : OrderKind) (s : State) : (placeOrder side k s).ps = s.ps := rfl
@[simp] theorem placeOrder_dc (side : Side) (k : OrderKind) (s : State) : (placeOrder side k s).dc = s.dc := rfl
@[simp] theorem placeOrder_spindles (side : Side) (k : OrderKind) (s : State) : (placeOrder side k s).spindles = s.spindles := rfl
@[simp] theorem placeOrder_si (side : Side) (k : OrderKind) (s : State) : (placeOrder side k s).si = s.si := rfl
@[simp] theorem placeOrder_df (side : Side) (k : OrderKind) (s : State) : (placeOrder side k s).df = s.df := rfl
@[simp] theorem placeOrder_rm (side : Side) (k : OrderKind) (s : State) : (placeOrder side k s).rm = s.rm := rfl
@[simp] theorem placeOrder_sa (side : Side) (k : OrderKind) (s : State) : (placeOrder side k s).sa = s.sa := rfl
@[simp] theorem placeOrder_lc (side : Side) (k : OrderKind) (s : State) : (placeOrder side k s).lc = s.lc := rfl
@[simp] theorem placeOrder_ml (side : Side) (k : OrderKind) (s : State) : (placeOrder side k s).ml = s.ml := rfl
@[simp] theorem placeOrder_events (side : Side) (k : OrderKind) (s : State) : (placeOrder side k s).events = s.events := rfl
@[simp] theorem placeOrder_overtaken (side : Side) (k : OrderKind) (s : State) : (placeOrder side k s).overtaken = s.overtaken := rfl
@[simp] theorem placeOrder_freeCount (side : Side) (k : OrderKind) (s : State) : (placeOrder side k s).freeCount = s.freeCount := rfl
@[simp] theorem placeOrder_pending (side : Side) (k : OrderKind) (s : State) : (placeOrder side k s).pending = s.pending := rfl

/-! ### clearPassedOver -/

@[simp] theorem clearPassedOver_powered (side : Side) (s : State) : (clearPassedOver side s).powered = s.powered := rfl
@[simp] theorem clearPassedOver_ps (side : Side) (s : State) : (clearPassedOver side s).ps = s.ps := rfl
@[simp] theorem clearPassedOver_dc (side : Side) (s : State) : (clearPassedOver side s).dc = s.dc := rfl
@[simp] theorem clearPassedOver_spindles (side : Side) (s : State) : (clearPassedOver side s).spindles = s.spindles := rfl
@[simp] theorem clearPassedOver_si (side : Side) (s : State) : (clearPassedOver side s).si = s.si := rfl
@[simp] theorem clearPassedOver_df (side : Side) (s : State) : (clearPassedOver side s).df = s.df := rfl
@[simp] theorem clearPassedOver_rm (side : Side) (s : State) : (clearPassedOver side s).rm = s.rm := rfl
@[simp] theorem clearPassedOver_sa (side : Side) (s : State) : (clearPassedOver side s).sa = s.sa := rfl
@[simp] theorem clearPassedOver_lc (side : Side) (s : State) : (clearPassedOver side s).lc = s.lc := rfl
@[simp] theorem clearPassedOver_ml (side : Side) (s : State) : (clearPassedOver side s).ml = s.ml := rfl
@[simp] theorem clearPassedOver_events (side : Side) (s : State) : (clearPassedOver side s).events = s.events := rfl
@[simp] theorem clearPassedOver_overtaken (side : Side) (s : State) : (clearPassedOver side s).overtaken = s.overtaken := rfl
@[simp] theorem clearPassedOver_freeCount (side : Side) (s : State) : (clearPassedOver side s).freeCount = s.freeCount := rfl
@[simp] theorem clearPassedOver_pending (side : Side) (s : State) : (clearPassedOver side s).pending = s.pending := rfl

/-! ### enterIdle -/

@[simp] theorem enterIdle_powered (side : Side) (s : State) : (enterIdle side s).powered = s.powered := rfl
@[simp] theorem enterIdle_ps (side : Side) (s : State) : (enterIdle side s).ps = s.ps := rfl
@[simp] theorem enterIdle_dc (side : Side) (s : State) : (enterIdle side s).dc = s.dc := rfl
@[simp] theorem enterIdle_spindles (side : Side) (s : State) : (enterIdle side s).spindles = s.spindles := rfl
@[simp] theorem enterIdle_si (side : Side) (s : State) : (enterIdle side s).si = s.si := rfl
@[simp] theorem enterIdle_df (side : Side) (s : State) : (enterIdle side s).df = s.df := rfl
@[simp] theorem enterIdle_rm (side : Side) (s : State) : (enterIdle side s).rm = s.rm := rfl
@[simp] theorem enterIdle_sa (side : Side) (s : State) : (enterIdle side s).sa = s.sa := rfl
@[simp] theorem enterIdle_lc (side : Side) (s : State) : (enterIdle side s).lc = s.lc := rfl
@[simp] theorem enterIdle_ml (side : Side) (s : State) : (enterIdle side s).ml = s.ml := rfl
@[simp] theorem enterIdle_events (side : Side) (s : State) : (enterIdle side s).events = s.events := rfl
@[simp] theorem enterIdle_overtaken (side : Side) (s : State) : (enterIdle side s).overtaken = s.overtaken := rfl
@[simp] theorem enterIdle_freeCount (side : Side) (s : State) : (enterIdle side s).freeCount = s.freeCount := rfl
@[simp] theorem enterIdle_pending (side : Side) (s : State) : (enterIdle side s).pending = s.pending := rfl

/-! ### freeCarriage -/

@[simp] theorem freeCarriage_powered (side : Side) (s : State) : (freeCarriage side s).powered = s.powered := rfl
@[simp] theorem freeCarriage_ps (side : Side) (s : State) : (freeCarriage side s).ps = s.ps := rfl
@[simp] theorem freeCarriage_dc (side : Side) (s : State) : (freeCarriage side s).dc = s.dc := rfl
@[simp] theorem freeCarriage_spindles (side : Side) (s : State) : (freeCarriage side s).spindles = s.spindles := rfl
@[simp] theorem freeCarriage_si (side : Side) (s : State) : (freeCarriage side s).si = s.si := rfl
@[simp] theorem freeCarriage_df (side : Side) (s : State) : (freeCarriage side s).df = s.df := rfl
@[simp] theorem freeCarriage_rm (side : Side) (s : State) : (freeCarriage side s).rm = s.rm := rfl
@[simp] theorem freeCarriage_sa (side : Side) (s : State) : (freeCarriage side s).sa = s.sa := rfl
@[simp] theorem freeCarriage_lc (side : Side) (s : State) : (freeCarriage side s).lc = s.lc := rfl
@[simp] theorem freeCarriage_ml (side : Side) (s : State) : (freeCarriage side s).ml = s.ml := rfl
@[simp] theorem freeCarriage_events (side : Side) (s : State) : (freeCarriage side s).events = s.events := rfl
@[simp] theorem freeCarriage_overtaken (side : Side) (s : State) : (freeCarriage side s).overtaken = s.overtaken := rfl
@[simp] theorem freeCarriage_freeCount (side : Side) (s : State) : (freeCarriage side s).freeCount = s.freeCount := rfl
@[simp] theorem freeCarriage_pending (side : Side) (s : State) : (freeCarriage side s).pending = s.pending := rfl

/-! ### boundPark -/

@[simp] theorem boundPark_powered (side : Side) (s : State) : (boundPark side s).powered = s.powered := rfl
@[simp] theorem boundPark_ps (side : Side) (s : State) : (boundPark side s).ps = s.ps := rfl
@[simp] theorem boundPark_dc (side : Side) (s : State) : (boundPark side s).dc = s.dc := rfl
@[simp] theorem boundPark_spindles (side : Side) (s : State) : (boundPark side s).spindles = s.spindles := rfl
@[simp] theorem boundPark_si (side : Side) (s : State) : (boundPark side s).si = s.si := rfl
@[simp] theorem boundPark_df (side : Side) (s : State) : (boundPark side s).df = s.df := rfl
@[simp] theorem boundPark_rm (side : Side) (s : State) : (boundPark side s).rm = s.rm := rfl
@[simp] theorem boundPark_sa (side : Side) (s : State) : (boundPark side s).sa = s.sa := rfl
@[simp] theorem boundPark_lc (side : Side) (s : State) : (boundPark side s).lc = s.lc := rfl
@[simp] theorem boundPark_ml (side : Side) (s : State) : (boundPark side s).ml = s.ml := rfl
@[simp] theorem boundPark_events (side : Side) (s : State) : (boundPark side s).events = s.events := rfl
@[simp] theorem boundPark_overtaken (side : Side) (s : State) : (boundPark side s).overtaken = s.overtaken := rfl
@[simp] theorem boundPark_freeCount (side : Side) (s : State) : (boundPark side s).freeCount = s.freeCount := rfl
@[simp] theorem boundPark_pending (side : Side) (s : State) : (boundPark side s).pending = s.pending := rfl

/-! ### modStation -/

@[simp] theorem modStation_powered (a : Nat) (f : Station → Station) (s : State) : (modStation a f s).powered = s.powered := rfl
@[simp] theorem modStation_ps (a : Nat) (f : Station → Station) (s : State) : (modStation a f s).ps = s.ps := rfl
@[simp] theorem modStation_dc (a : Nat) (f : Station → Station) (s : State) : (modStation a f s).dc = s.dc := rfl
@[simp] theorem modStation_spindles (a : Nat) (f : Station → Station) (s : State) : (modStation a f s).spindles = s.spindles := rfl
@[simp] theorem modStation_si (a : Nat) (f : Station → Station) (s : State) : (modStation a f s).si = s.si := rfl
@[simp] theorem modStation_pd (a : Nat) (f : Station → Station) (s : State) : (modStation a f s).pd = s.pd := rfl
@[simp] theorem modStation_df (a : Nat) (f : Station → Station) (s : State) : (modStation a f s).df = s.df := rfl
@[simp] theorem modStation_rm (a : Nat) (f : Station → Station) (s : State) : (modStation a f s).rm = s.rm := rfl
@[simp] theorem modStation_sa (a : Nat) (f : Station → Station) (s : State) : (modStation a f s).sa = s.sa := rfl
@[simp] theorem modStation_ml (a : Nat) (f : Station → Station) (s : State) : (modStation a f s).ml = s.ml := rfl
@[simp] theorem modStation_events (a : Nat) (f : Station → Station) (s : State) : (modStation a f s).events = s.events := rfl
@[simp] theorem modStation_overtaken (a : Nat) (f : Station → Station) (s : State) : (modStation a f s).overtaken = s.overtaken := rfl
@[simp] theorem modStation_freeCount (a : Nat) (f : Station → Station) (s : State) : (modStation a f s).freeCount = s.freeCount := rfl
@[simp] theorem modStation_pending (a : Nat) (f : Station → Station) (s : State) : (modStation a f s).pending = s.pending := rfl

/-! ### sendLine -/

@[simp] theorem sendLine_powered (m : LineMessage) (s : State) : (sendLine m s).powered = s.powered := rfl
@[simp] theorem sendLine_ps (m : LineMessage) (s : State) : (sendLine m s).ps = s.ps := rfl
@[simp] theorem sendLine_dc (m : LineMessage) (s : State) : (sendLine m s).dc = s.dc := rfl
@[simp] theorem sendLine_spindles (m : LineMessage) (s : State) : (sendLine m s).spindles = s.spindles := rfl
@[simp] theorem sendLine_si (m : LineMessage) (s : State) : (sendLine m s).si = s.si := rfl
@[simp] theorem sendLine_pd (m : LineMessage) (s : State) : (sendLine m s).pd = s.pd := rfl
@[simp] theorem sendLine_df (m : LineMessage) (s : State) : (sendLine m s).df = s.df := rfl
@[simp] theorem sendLine_rm (m : LineMessage) (s : State) : (sendLine m s).rm = s.rm := rfl
@[simp] theorem sendLine_sa (m : LineMessage) (s : State) : (sendLine m s).sa = s.sa := rfl
@[simp] theorem sendLine_ml (m : LineMessage) (s : State) : (sendLine m s).ml = s.ml := rfl
@[simp] theorem sendLine_events (m : LineMessage) (s : State) : (sendLine m s).events = s.events := rfl
@[simp] theorem sendLine_overtaken (m : LineMessage) (s : State) : (sendLine m s).overtaken = s.overtaken := rfl
@[simp] theorem sendLine_freeCount (m : LineMessage) (s : State) : (sendLine m s).freeCount = s.freeCount := rfl
@[simp] theorem sendLine_pending (m : LineMessage) (s : State) : (sendLine m s).pending = s.pending := rfl

/-! ### queueOwn -/

@[simp] theorem queueOwn_powered (f : OwnFrame) (s : State) : (queueOwn f s).powered = s.powered := rfl
@[simp] theorem queueOwn_ps (f : OwnFrame) (s : State) : (queueOwn f s).ps = s.ps := rfl
@[simp] theorem queueOwn_dc (f : OwnFrame) (s : State) : (queueOwn f s).dc = s.dc := rfl
@[simp] theorem queueOwn_spindles (f : OwnFrame) (s : State) : (queueOwn f s).spindles = s.spindles := rfl
@[simp] theorem queueOwn_si (f : OwnFrame) (s : State) : (queueOwn f s).si = s.si := rfl
@[simp] theorem queueOwn_pd (f : OwnFrame) (s : State) : (queueOwn f s).pd = s.pd := rfl
@[simp] theorem queueOwn_df (f : OwnFrame) (s : State) : (queueOwn f s).df = s.df := rfl
@[simp] theorem queueOwn_rm (f : OwnFrame) (s : State) : (queueOwn f s).rm = s.rm := rfl
@[simp] theorem queueOwn_sa (f : OwnFrame) (s : State) : (queueOwn f s).sa = s.sa := rfl
@[simp] theorem queueOwn_lc (f : OwnFrame) (s : State) : (queueOwn f s).lc = s.lc := rfl
@[simp] theorem queueOwn_events (f : OwnFrame) (s : State) : (queueOwn f s).events = s.events := rfl
@[simp] theorem queueOwn_overtaken (f : OwnFrame) (s : State) : (queueOwn f s).overtaken = s.overtaken := rfl
@[simp] theorem queueOwn_freeCount (f : OwnFrame) (s : State) : (queueOwn f s).freeCount = s.freeCount := rfl
@[simp] theorem queueOwn_pending (f : OwnFrame) (s : State) : (queueOwn f s).pending = s.pending := rfl

/-! ### originate -/

@[simp] theorem originate_powered (b : Body) (s : State) : (originate b s).powered = s.powered := rfl
@[simp] theorem originate_ps (b : Body) (s : State) : (originate b s).ps = s.ps := rfl
@[simp] theorem originate_dc (b : Body) (s : State) : (originate b s).dc = s.dc := rfl
@[simp] theorem originate_spindles (b : Body) (s : State) : (originate b s).spindles = s.spindles := rfl
@[simp] theorem originate_si (b : Body) (s : State) : (originate b s).si = s.si := rfl
@[simp] theorem originate_pd (b : Body) (s : State) : (originate b s).pd = s.pd := rfl
@[simp] theorem originate_df (b : Body) (s : State) : (originate b s).df = s.df := rfl
@[simp] theorem originate_rm (b : Body) (s : State) : (originate b s).rm = s.rm := rfl
@[simp] theorem originate_sa (b : Body) (s : State) : (originate b s).sa = s.sa := rfl
@[simp] theorem originate_lc (b : Body) (s : State) : (originate b s).lc = s.lc := rfl
@[simp] theorem originate_events (b : Body) (s : State) : (originate b s).events = s.events := rfl
@[simp] theorem originate_overtaken (b : Body) (s : State) : (originate b s).overtaken = s.overtaken := rfl
@[simp] theorem originate_freeCount (b : Body) (s : State) : (originate b s).freeCount = s.freeCount := rfl
@[simp] theorem originate_pending (b : Body) (s : State) : (originate b s).pending = s.pending := rfl

/-! ### modPortCounts -/

@[simp] theorem modPortCounts_powered (f : PortCounts → PortCounts) (s : State) : (modPortCounts f s).powered = s.powered := rfl
@[simp] theorem modPortCounts_ps (f : PortCounts → PortCounts) (s : State) : (modPortCounts f s).ps = s.ps := rfl
@[simp] theorem modPortCounts_dc (f : PortCounts → PortCounts) (s : State) : (modPortCounts f s).dc = s.dc := rfl
@[simp] theorem modPortCounts_spindles (f : PortCounts → PortCounts) (s : State) : (modPortCounts f s).spindles = s.spindles := rfl
@[simp] theorem modPortCounts_si (f : PortCounts → PortCounts) (s : State) : (modPortCounts f s).si = s.si := rfl
@[simp] theorem modPortCounts_pd (f : PortCounts → PortCounts) (s : State) : (modPortCounts f s).pd = s.pd := rfl
@[simp] theorem modPortCounts_df (f : PortCounts → PortCounts) (s : State) : (modPortCounts f s).df = s.df := rfl
@[simp] theorem modPortCounts_rm (f : PortCounts → PortCounts) (s : State) : (modPortCounts f s).rm = s.rm := rfl
@[simp] theorem modPortCounts_sa (f : PortCounts → PortCounts) (s : State) : (modPortCounts f s).sa = s.sa := rfl
@[simp] theorem modPortCounts_lc (f : PortCounts → PortCounts) (s : State) : (modPortCounts f s).lc = s.lc := rfl
@[simp] theorem modPortCounts_events (f : PortCounts → PortCounts) (s : State) : (modPortCounts f s).events = s.events := rfl
@[simp] theorem modPortCounts_overtaken (f : PortCounts → PortCounts) (s : State) : (modPortCounts f s).overtaken = s.overtaken := rfl
@[simp] theorem modPortCounts_freeCount (f : PortCounts → PortCounts) (s : State) : (modPortCounts f s).freeCount = s.freeCount := rfl
@[simp] theorem modPortCounts_pending (f : PortCounts → PortCounts) (s : State) : (modPortCounts f s).pending = s.pending := rfl

/-! ### placeDrive -/

@[simp] theorem placeDrive_powered (o : DriveOrder) (s : State) : (placeDrive o s).powered = s.powered := rfl
@[simp] theorem placeDrive_ps (o : DriveOrder) (s : State) : (placeDrive o s).ps = s.ps := rfl
@[simp] theorem placeDrive_dc (o : DriveOrder) (s : State) : (placeDrive o s).dc = s.dc := rfl
@[simp] theorem placeDrive_spindles (o : DriveOrder) (s : State) : (placeDrive o s).spindles = s.spindles := rfl
@[simp] theorem placeDrive_si (o : DriveOrder) (s : State) : (placeDrive o s).si = s.si := rfl
@[simp] theorem placeDrive_pd (o : DriveOrder) (s : State) : (placeDrive o s).pd = s.pd := rfl
@[simp] theorem placeDrive_rm (o : DriveOrder) (s : State) : (placeDrive o s).rm = s.rm := rfl
@[simp] theorem placeDrive_sa (o : DriveOrder) (s : State) : (placeDrive o s).sa = s.sa := rfl
@[simp] theorem placeDrive_lc (o : DriveOrder) (s : State) : (placeDrive o s).lc = s.lc := rfl
@[simp] theorem placeDrive_ml (o : DriveOrder) (s : State) : (placeDrive o s).ml = s.ml := rfl
@[simp] theorem placeDrive_events (o : DriveOrder) (s : State) : (placeDrive o s).events = s.events := rfl
@[simp] theorem placeDrive_overtaken (o : DriveOrder) (s : State) : (placeDrive o s).overtaken = s.overtaken := rfl
@[simp] theorem placeDrive_freeCount (o : DriveOrder) (s : State) : (placeDrive o s).freeCount = s.freeCount := rfl
@[simp] theorem placeDrive_pending (o : DriveOrder) (s : State) : (placeDrive o s).pending = s.pending := rfl

/-! ### placeDoffer -/

@[simp] theorem placeDoffer_powered (o : DofferOrder) (s : State) : (placeDoffer o s).powered = s.powered := rfl
@[simp] theorem placeDoffer_ps (o : DofferOrder) (s : State) : (placeDoffer o s).ps = s.ps := rfl
@[simp] theorem placeDoffer_dc (o : DofferOrder) (s : State) : (placeDoffer o s).dc = s.dc := rfl
@[simp] theorem placeDoffer_spindles (o : DofferOrder) (s : State) : (placeDoffer o s).spindles = s.spindles := rfl
@[simp] theorem placeDoffer_si (o : DofferOrder) (s : State) : (placeDoffer o s).si = s.si := rfl
@[simp] theorem placeDoffer_pd (o : DofferOrder) (s : State) : (placeDoffer o s).pd = s.pd := rfl
@[simp] theorem placeDoffer_rm (o : DofferOrder) (s : State) : (placeDoffer o s).rm = s.rm := rfl
@[simp] theorem placeDoffer_sa (o : DofferOrder) (s : State) : (placeDoffer o s).sa = s.sa := rfl
@[simp] theorem placeDoffer_lc (o : DofferOrder) (s : State) : (placeDoffer o s).lc = s.lc := rfl
@[simp] theorem placeDoffer_ml (o : DofferOrder) (s : State) : (placeDoffer o s).ml = s.ml := rfl
@[simp] theorem placeDoffer_events (o : DofferOrder) (s : State) : (placeDoffer o s).events = s.events := rfl
@[simp] theorem placeDoffer_overtaken (o : DofferOrder) (s : State) : (placeDoffer o s).overtaken = s.overtaken := rfl
@[simp] theorem placeDoffer_freeCount (o : DofferOrder) (s : State) : (placeDoffer o s).freeCount = s.freeCount := rfl
@[simp] theorem placeDoffer_pending (o : DofferOrder) (s : State) : (placeDoffer o s).pending = s.pending := rfl

/-! ### setDoff -/

@[simp] theorem setDoff_powered (x : DoffState) (s : State) : (setDoff x s).powered = s.powered := rfl
@[simp] theorem setDoff_ps (x : DoffState) (s : State) : (setDoff x s).ps = s.ps := rfl
@[simp] theorem setDoff_dc (x : DoffState) (s : State) : (setDoff x s).dc = s.dc := rfl
@[simp] theorem setDoff_spindles (x : DoffState) (s : State) : (setDoff x s).spindles = s.spindles := rfl
@[simp] theorem setDoff_si (x : DoffState) (s : State) : (setDoff x s).si = s.si := rfl
@[simp] theorem setDoff_pd (x : DoffState) (s : State) : (setDoff x s).pd = s.pd := rfl
@[simp] theorem setDoff_rm (x : DoffState) (s : State) : (setDoff x s).rm = s.rm := rfl
@[simp] theorem setDoff_sa (x : DoffState) (s : State) : (setDoff x s).sa = s.sa := rfl
@[simp] theorem setDoff_lc (x : DoffState) (s : State) : (setDoff x s).lc = s.lc := rfl
@[simp] theorem setDoff_ml (x : DoffState) (s : State) : (setDoff x s).ml = s.ml := rfl
@[simp] theorem setDoff_events (x : DoffState) (s : State) : (setDoff x s).events = s.events := rfl
@[simp] theorem setDoff_overtaken (x : DoffState) (s : State) : (setDoff x s).overtaken = s.overtaken := rfl
@[simp] theorem setDoff_freeCount (x : DoffState) (s : State) : (setDoff x s).freeCount = s.freeCount := rfl
@[simp] theorem setDoff_pending (x : DoffState) (s : State) : (setDoff x s).pending = s.pending := rfl

/-! ### loadDoffTimer -/

@[simp] theorem loadDoffTimer_powered (s : State) : (loadDoffTimer s).powered = s.powered := rfl
@[simp] theorem loadDoffTimer_ps (s : State) : (loadDoffTimer s).ps = s.ps := rfl
@[simp] theorem loadDoffTimer_dc (s : State) : (loadDoffTimer s).dc = s.dc := rfl
@[simp] theorem loadDoffTimer_spindles (s : State) : (loadDoffTimer s).spindles = s.spindles := rfl
@[simp] theorem loadDoffTimer_si (s : State) : (loadDoffTimer s).si = s.si := rfl
@[simp] theorem loadDoffTimer_pd (s : State) : (loadDoffTimer s).pd = s.pd := rfl
@[simp] theorem loadDoffTimer_rm (s : State) : (loadDoffTimer s).rm = s.rm := rfl
@[simp] theorem loadDoffTimer_sa (s : State) : (loadDoffTimer s).sa = s.sa := rfl
@[simp] theorem loadDoffTimer_lc (s : State) : (loadDoffTimer s).lc = s.lc := rfl
@[simp] theorem loadDoffTimer_ml (s : State) : (loadDoffTimer s).ml = s.ml := rfl
@[simp] theorem loadDoffTimer_events (s : State) : (loadDoffTimer s).events = s.events := rfl
@[simp] theorem loadDoffTimer_overtaken (s : State) : (loadDoffTimer s).overtaken = s.overtaken := rfl
@[simp] theorem loadDoffTimer_freeCount (s : State) : (loadDoffTimer s).freeCount = s.freeCount := rfl
@[simp] theorem loadDoffTimer_pending (s : State) : (loadDoffTimer s).pending = s.pending := rfl

/-! ### stopDoffTimer -/

@[simp] theorem stopDoffTimer_powered (s : State) : (stopDoffTimer s).powered = s.powered := rfl
@[simp] theorem stopDoffTimer_ps (s : State) : (stopDoffTimer s).ps = s.ps := rfl
@[simp] theorem stopDoffTimer_dc (s : State) : (stopDoffTimer s).dc = s.dc := rfl
@[simp] theorem stopDoffTimer_spindles (s : State) : (stopDoffTimer s).spindles = s.spindles := rfl
@[simp] theorem stopDoffTimer_si (s : State) : (stopDoffTimer s).si = s.si := rfl
@[simp] theorem stopDoffTimer_pd (s : State) : (stopDoffTimer s).pd = s.pd := rfl
@[simp] theorem stopDoffTimer_rm (s : State) : (stopDoffTimer s).rm = s.rm := rfl
@[simp] theorem stopDoffTimer_sa (s : State) : (stopDoffTimer s).sa = s.sa := rfl
@[simp] theorem stopDoffTimer_lc (s : State) : (stopDoffTimer s).lc = s.lc := rfl
@[simp] theorem stopDoffTimer_ml (s : State) : (stopDoffTimer s).ml = s.ml := rfl
@[simp] theorem stopDoffTimer_events (s : State) : (stopDoffTimer s).events = s.events := rfl
@[simp] theorem stopDoffTimer_overtaken (s : State) : (stopDoffTimer s).overtaken = s.overtaken := rfl
@[simp] theorem stopDoffTimer_freeCount (s : State) : (stopDoffTimer s).freeCount = s.freeCount := rfl
@[simp] theorem stopDoffTimer_pending (s : State) : (stopDoffTimer s).pending = s.pending := rfl

/-! ### ignoreReport -/

@[simp] theorem ignoreReport_powered (s : State) : (ignoreReport s).powered = s.powered := rfl
@[simp] theorem ignoreReport_ps (s : State) : (ignoreReport s).ps = s.ps := rfl
@[simp] theorem ignoreReport_dc (s : State) : (ignoreReport s).dc = s.dc := rfl
@[simp] theorem ignoreReport_spindles (s : State) : (ignoreReport s).spindles = s.spindles := rfl
@[simp] theorem ignoreReport_si (s : State) : (ignoreReport s).si = s.si := rfl
@[simp] theorem ignoreReport_pd (s : State) : (ignoreReport s).pd = s.pd := rfl
@[simp] theorem ignoreReport_rm (s : State) : (ignoreReport s).rm = s.rm := rfl
@[simp] theorem ignoreReport_sa (s : State) : (ignoreReport s).sa = s.sa := rfl
@[simp] theorem ignoreReport_lc (s : State) : (ignoreReport s).lc = s.lc := rfl
@[simp] theorem ignoreReport_ml (s : State) : (ignoreReport s).ml = s.ml := rfl
@[simp] theorem ignoreReport_events (s : State) : (ignoreReport s).events = s.events := rfl
@[simp] theorem ignoreReport_overtaken (s : State) : (ignoreReport s).overtaken = s.overtaken := rfl
@[simp] theorem ignoreReport_freeCount (s : State) : (ignoreReport s).freeCount = s.freeCount := rfl
@[simp] theorem ignoreReport_pending (s : State) : (ignoreReport s).pending = s.pending := rfl

/-! ### passDue -/

@[simp] theorem passDue_powered (p : Pass) (s : State) : (passDue p s).powered = s.powered := rfl
@[simp] theorem passDue_ps (p : Pass) (s : State) : (passDue p s).ps = s.ps := rfl
@[simp] theorem passDue_dc (p : Pass) (s : State) : (passDue p s).dc = s.dc := rfl
@[simp] theorem passDue_spindles (p : Pass) (s : State) : (passDue p s).spindles = s.spindles := rfl
@[simp] theorem passDue_si (p : Pass) (s : State) : (passDue p s).si = s.si := rfl
@[simp] theorem passDue_pd (p : Pass) (s : State) : (passDue p s).pd = s.pd := rfl
@[simp] theorem passDue_df (p : Pass) (s : State) : (passDue p s).df = s.df := rfl
@[simp] theorem passDue_sa (p : Pass) (s : State) : (passDue p s).sa = s.sa := rfl
@[simp] theorem passDue_lc (p : Pass) (s : State) : (passDue p s).lc = s.lc := rfl
@[simp] theorem passDue_ml (p : Pass) (s : State) : (passDue p s).ml = s.ml := rfl
@[simp] theorem passDue_events (p : Pass) (s : State) : (passDue p s).events = s.events := rfl
@[simp] theorem passDue_overtaken (p : Pass) (s : State) : (passDue p s).overtaken = s.overtaken := rfl
@[simp] theorem passDue_freeCount (p : Pass) (s : State) : (passDue p s).freeCount = s.freeCount := rfl
@[simp] theorem passDue_pending (p : Pass) (s : State) : (passDue p s).pending = s.pending := rfl

/-! ### setForecast -/

@[simp] theorem setForecast_powered (k : Nat) (x : Option Nat) (s : State) : (setForecast k x s).powered = s.powered := by unfold setForecast; split <;> rfl
@[simp] theorem setForecast_ps (k : Nat) (x : Option Nat) (s : State) : (setForecast k x s).ps = s.ps := by unfold setForecast; split <;> rfl
@[simp] theorem setForecast_dc (k : Nat) (x : Option Nat) (s : State) : (setForecast k x s).dc = s.dc := by unfold setForecast; split <;> rfl
@[simp] theorem setForecast_spindles (k : Nat) (x : Option Nat) (s : State) : (setForecast k x s).spindles = s.spindles := by unfold setForecast; split <;> rfl
@[simp] theorem setForecast_si (k : Nat) (x : Option Nat) (s : State) : (setForecast k x s).si = s.si := by unfold setForecast; split <;> rfl
@[simp] theorem setForecast_pd (k : Nat) (x : Option Nat) (s : State) : (setForecast k x s).pd = s.pd := by unfold setForecast; split <;> rfl
@[simp] theorem setForecast_df (k : Nat) (x : Option Nat) (s : State) : (setForecast k x s).df = s.df := by unfold setForecast; split <;> rfl
@[simp] theorem setForecast_sa (k : Nat) (x : Option Nat) (s : State) : (setForecast k x s).sa = s.sa := by unfold setForecast; split <;> rfl
@[simp] theorem setForecast_lc (k : Nat) (x : Option Nat) (s : State) : (setForecast k x s).lc = s.lc := by unfold setForecast; split <;> rfl
@[simp] theorem setForecast_ml (k : Nat) (x : Option Nat) (s : State) : (setForecast k x s).ml = s.ml := by unfold setForecast; split <;> rfl
@[simp] theorem setForecast_events (k : Nat) (x : Option Nat) (s : State) : (setForecast k x s).events = s.events := by unfold setForecast; split <;> rfl
@[simp] theorem setForecast_overtaken (k : Nat) (x : Option Nat) (s : State) : (setForecast k x s).overtaken = s.overtaken := by unfold setForecast; split <;> rfl
@[simp] theorem setForecast_freeCount (k : Nat) (x : Option Nat) (s : State) : (setForecast k x s).freeCount = s.freeCount := by unfold setForecast; split <;> rfl
@[simp] theorem setForecast_pending (k : Nat) (x : Option Nat) (s : State) : (setForecast k x s).pending = s.pending := by unfold setForecast; split <;> rfl

/-! ### modCounters -/

@[simp] theorem modCounters_powered (f : ShiftCounters → ShiftCounters) (s : State) : (modCounters f s).powered = s.powered := rfl
@[simp] theorem modCounters_ps (f : ShiftCounters → ShiftCounters) (s : State) : (modCounters f s).ps = s.ps := rfl
@[simp] theorem modCounters_dc (f : ShiftCounters → ShiftCounters) (s : State) : (modCounters f s).dc = s.dc := rfl
@[simp] theorem modCounters_spindles (f : ShiftCounters → ShiftCounters) (s : State) : (modCounters f s).spindles = s.spindles := rfl
@[simp] theorem modCounters_si (f : ShiftCounters → ShiftCounters) (s : State) : (modCounters f s).si = s.si := rfl
@[simp] theorem modCounters_pd (f : ShiftCounters → ShiftCounters) (s : State) : (modCounters f s).pd = s.pd := rfl
@[simp] theorem modCounters_df (f : ShiftCounters → ShiftCounters) (s : State) : (modCounters f s).df = s.df := rfl
@[simp] theorem modCounters_rm (f : ShiftCounters → ShiftCounters) (s : State) : (modCounters f s).rm = s.rm := rfl
@[simp] theorem modCounters_lc (f : ShiftCounters → ShiftCounters) (s : State) : (modCounters f s).lc = s.lc := rfl
@[simp] theorem modCounters_ml (f : ShiftCounters → ShiftCounters) (s : State) : (modCounters f s).ml = s.ml := rfl
@[simp] theorem modCounters_events (f : ShiftCounters → ShiftCounters) (s : State) : (modCounters f s).events = s.events := rfl
@[simp] theorem modCounters_overtaken (f : ShiftCounters → ShiftCounters) (s : State) : (modCounters f s).overtaken = s.overtaken := rfl
@[simp] theorem modCounters_freeCount (f : ShiftCounters → ShiftCounters) (s : State) : (modCounters f s).freeCount = s.freeCount := rfl
@[simp] theorem modCounters_pending (f : ShiftCounters → ShiftCounters) (s : State) : (modCounters f s).pending = s.pending := rfl

/-! ### modEvent -/

@[simp] theorem modEvent_powered (c : Nat) (f : EventClass → EventClass) (s : State) : (modEvent c f s).powered = s.powered := rfl
@[simp] theorem modEvent_ps (c : Nat) (f : EventClass → EventClass) (s : State) : (modEvent c f s).ps = s.ps := rfl
@[simp] theorem modEvent_dc (c : Nat) (f : EventClass → EventClass) (s : State) : (modEvent c f s).dc = s.dc := rfl
@[simp] theorem modEvent_spindles (c : Nat) (f : EventClass → EventClass) (s : State) : (modEvent c f s).spindles = s.spindles := rfl
@[simp] theorem modEvent_si (c : Nat) (f : EventClass → EventClass) (s : State) : (modEvent c f s).si = s.si := rfl
@[simp] theorem modEvent_pd (c : Nat) (f : EventClass → EventClass) (s : State) : (modEvent c f s).pd = s.pd := rfl
@[simp] theorem modEvent_df (c : Nat) (f : EventClass → EventClass) (s : State) : (modEvent c f s).df = s.df := rfl
@[simp] theorem modEvent_rm (c : Nat) (f : EventClass → EventClass) (s : State) : (modEvent c f s).rm = s.rm := rfl
@[simp] theorem modEvent_sa (c : Nat) (f : EventClass → EventClass) (s : State) : (modEvent c f s).sa = s.sa := rfl
@[simp] theorem modEvent_lc (c : Nat) (f : EventClass → EventClass) (s : State) : (modEvent c f s).lc = s.lc := rfl
@[simp] theorem modEvent_ml (c : Nat) (f : EventClass → EventClass) (s : State) : (modEvent c f s).ml = s.ml := rfl
@[simp] theorem modEvent_overtaken (c : Nat) (f : EventClass → EventClass) (s : State) : (modEvent c f s).overtaken = s.overtaken := rfl
@[simp] theorem modEvent_freeCount (c : Nat) (f : EventClass → EventClass) (s : State) : (modEvent c f s).freeCount = s.freeCount := rfl
@[simp] theorem modEvent_pending (c : Nat) (f : EventClass → EventClass) (s : State) : (modEvent c f s).pending = s.pending := rfl

/-! ### queueNotice -/

@[simp] theorem queueNotice_powered (c : Nat) (s : State) : (queueNotice c s).powered = s.powered := rfl
@[simp] theorem queueNotice_ps (c : Nat) (s : State) : (queueNotice c s).ps = s.ps := rfl
@[simp] theorem queueNotice_dc (c : Nat) (s : State) : (queueNotice c s).dc = s.dc := rfl
@[simp] theorem queueNotice_spindles (c : Nat) (s : State) : (queueNotice c s).spindles = s.spindles := rfl
@[simp] theorem queueNotice_si (c : Nat) (s : State) : (queueNotice c s).si = s.si := rfl
@[simp] theorem queueNotice_pd (c : Nat) (s : State) : (queueNotice c s).pd = s.pd := rfl
@[simp] theorem queueNotice_df (c : Nat) (s : State) : (queueNotice c s).df = s.df := rfl
@[simp] theorem queueNotice_rm (c : Nat) (s : State) : (queueNotice c s).rm = s.rm := rfl
@[simp] theorem queueNotice_sa (c : Nat) (s : State) : (queueNotice c s).sa = s.sa := rfl
@[simp] theorem queueNotice_lc (c : Nat) (s : State) : (queueNotice c s).lc = s.lc := rfl
@[simp] theorem queueNotice_overtaken (c : Nat) (s : State) : (queueNotice c s).overtaken = s.overtaken := rfl
@[simp] theorem queueNotice_freeCount (c : Nat) (s : State) : (queueNotice c s).freeCount = s.freeCount := rfl
@[simp] theorem queueNotice_pending (c : Nat) (s : State) : (queueNotice c s).pending = s.pending := rfl

/-! ### admitNotice -/

@[simp] theorem admitNotice_powered (c : Nat) (s : State) : (admitNotice c s).powered = s.powered := by unfold admitNotice; split <;> rfl
@[simp] theorem admitNotice_ps (c : Nat) (s : State) : (admitNotice c s).ps = s.ps := by unfold admitNotice; split <;> rfl
@[simp] theorem admitNotice_dc (c : Nat) (s : State) : (admitNotice c s).dc = s.dc := by unfold admitNotice; split <;> rfl
@[simp] theorem admitNotice_spindles (c : Nat) (s : State) : (admitNotice c s).spindles = s.spindles := by unfold admitNotice; split <;> rfl
@[simp] theorem admitNotice_si (c : Nat) (s : State) : (admitNotice c s).si = s.si := by unfold admitNotice; split <;> rfl
@[simp] theorem admitNotice_pd (c : Nat) (s : State) : (admitNotice c s).pd = s.pd := by unfold admitNotice; split <;> rfl
@[simp] theorem admitNotice_df (c : Nat) (s : State) : (admitNotice c s).df = s.df := by unfold admitNotice; split <;> rfl
@[simp] theorem admitNotice_rm (c : Nat) (s : State) : (admitNotice c s).rm = s.rm := by unfold admitNotice; split <;> rfl
@[simp] theorem admitNotice_sa (c : Nat) (s : State) : (admitNotice c s).sa = s.sa := by unfold admitNotice; split <;> rfl
@[simp] theorem admitNotice_lc (c : Nat) (s : State) : (admitNotice c s).lc = s.lc := by unfold admitNotice; split <;> rfl
@[simp] theorem admitNotice_overtaken (c : Nat) (s : State) : (admitNotice c s).overtaken = s.overtaken := by unfold admitNotice; split <;> rfl
@[simp] theorem admitNotice_freeCount (c : Nat) (s : State) : (admitNotice c s).freeCount = s.freeCount := by unfold admitNotice; split <;> rfl
@[simp] theorem admitNotice_pending (c : Nat) (s : State) : (admitNotice c s).pending = s.pending := by unfold admitNotice; split <;> rfl

/-! ### raiseEvent -/

@[simp] theorem raiseEvent_powered (id : EventId) (d : Nat) (s : State) : (raiseEvent id d s).powered = s.powered := by unfold raiseEvent; dsimp only; split <;> simp
@[simp] theorem raiseEvent_ps (id : EventId) (d : Nat) (s : State) : (raiseEvent id d s).ps = s.ps := by unfold raiseEvent; dsimp only; split <;> simp
@[simp] theorem raiseEvent_dc (id : EventId) (d : Nat) (s : State) : (raiseEvent id d s).dc = s.dc := by unfold raiseEvent; dsimp only; split <;> simp
@[simp] theorem raiseEvent_spindles (id : EventId) (d : Nat) (s : State) : (raiseEvent id d s).spindles = s.spindles := by unfold raiseEvent; dsimp only; split <;> simp
@[simp] theorem raiseEvent_si (id : EventId) (d : Nat) (s : State) : (raiseEvent id d s).si = s.si := by unfold raiseEvent; dsimp only; split <;> simp
@[simp] theorem raiseEvent_pd (id : EventId) (d : Nat) (s : State) : (raiseEvent id d s).pd = s.pd := by unfold raiseEvent; dsimp only; split <;> simp
@[simp] theorem raiseEvent_df (id : EventId) (d : Nat) (s : State) : (raiseEvent id d s).df = s.df := by unfold raiseEvent; dsimp only; split <;> simp
@[simp] theorem raiseEvent_rm (id : EventId) (d : Nat) (s : State) : (raiseEvent id d s).rm = s.rm := by unfold raiseEvent; dsimp only; split <;> simp
@[simp] theorem raiseEvent_sa (id : EventId) (d : Nat) (s : State) : (raiseEvent id d s).sa = s.sa := by unfold raiseEvent; dsimp only; split <;> simp
@[simp] theorem raiseEvent_lc (id : EventId) (d : Nat) (s : State) : (raiseEvent id d s).lc = s.lc := by unfold raiseEvent; dsimp only; split <;> simp
@[simp] theorem raiseEvent_overtaken (id : EventId) (d : Nat) (s : State) : (raiseEvent id d s).overtaken = s.overtaken := by unfold raiseEvent; dsimp only; split <;> simp
@[simp] theorem raiseEvent_freeCount (id : EventId) (d : Nat) (s : State) : (raiseEvent id d s).freeCount = s.freeCount := by unfold raiseEvent; dsimp only; split <;> simp
@[simp] theorem raiseEvent_pending (id : EventId) (d : Nat) (s : State) : (raiseEvent id d s).pending = s.pending := by unfold raiseEvent; dsimp only; split <;> simp

/-! ### overtakeDoff -/

@[simp] theorem overtakeDoff_powered (s t : State) : (overtakeDoff s t).powered = t.powered := by unfold overtakeDoff; split <;> rfl
@[simp] theorem overtakeDoff_ps (s t : State) : (overtakeDoff s t).ps = t.ps := by unfold overtakeDoff; split <;> rfl
@[simp] theorem overtakeDoff_dc (s t : State) : (overtakeDoff s t).dc = t.dc := by unfold overtakeDoff; split <;> rfl
@[simp] theorem overtakeDoff_spindles (s t : State) : (overtakeDoff s t).spindles = t.spindles := by unfold overtakeDoff; split <;> rfl
@[simp] theorem overtakeDoff_si (s t : State) : (overtakeDoff s t).si = t.si := by unfold overtakeDoff; split <;> rfl
@[simp] theorem overtakeDoff_pd (s t : State) : (overtakeDoff s t).pd = t.pd := by unfold overtakeDoff; split <;> rfl
@[simp] theorem overtakeDoff_df (s t : State) : (overtakeDoff s t).df = t.df := by unfold overtakeDoff; split <;> rfl
@[simp] theorem overtakeDoff_rm (s t : State) : (overtakeDoff s t).rm = t.rm := by unfold overtakeDoff; split <;> rfl
@[simp] theorem overtakeDoff_sa (s t : State) : (overtakeDoff s t).sa = t.sa := by unfold overtakeDoff; split <;> rfl
@[simp] theorem overtakeDoff_lc (s t : State) : (overtakeDoff s t).lc = t.lc := by unfold overtakeDoff; split <;> rfl
@[simp] theorem overtakeDoff_ml (s t : State) : (overtakeDoff s t).ml = t.ml := by unfold overtakeDoff; split <;> rfl
@[simp] theorem overtakeDoff_events (s t : State) : (overtakeDoff s t).events = t.events := by unfold overtakeDoff; split <;> rfl
@[simp] theorem overtakeDoff_freeCount (s t : State) : (overtakeDoff s t).freeCount = t.freeCount := by unfold overtakeDoff; split <;> rfl
@[simp] theorem overtakeDoff_pending (s t : State) : (overtakeDoff s t).pending = t.pending := by unfold overtakeDoff; split <;> rfl

/-! ### overtakeOrder -/

@[simp] theorem overtakeOrder_powered (side : Side) (s t : State) : (overtakeOrder side s t).powered = t.powered := by unfold overtakeOrder; split <;> rfl
@[simp] theorem overtakeOrder_ps (side : Side) (s t : State) : (overtakeOrder side s t).ps = t.ps := by unfold overtakeOrder; split <;> rfl
@[simp] theorem overtakeOrder_dc (side : Side) (s t : State) : (overtakeOrder side s t).dc = t.dc := by unfold overtakeOrder; split <;> rfl
@[simp] theorem overtakeOrder_spindles (side : Side) (s t : State) : (overtakeOrder side s t).spindles = t.spindles := by unfold overtakeOrder; split <;> rfl
@[simp] theorem overtakeOrder_si (side : Side) (s t : State) : (overtakeOrder side s t).si = t.si := by unfold overtakeOrder; split <;> rfl
@[simp] theorem overtakeOrder_pd (side : Side) (s t : State) : (overtakeOrder side s t).pd = t.pd := by unfold overtakeOrder; split <;> rfl
@[simp] theorem overtakeOrder_df (side : Side) (s t : State) : (overtakeOrder side s t).df = t.df := by unfold overtakeOrder; split <;> rfl
@[simp] theorem overtakeOrder_rm (side : Side) (s t : State) : (overtakeOrder side s t).rm = t.rm := by unfold overtakeOrder; split <;> rfl
@[simp] theorem overtakeOrder_sa (side : Side) (s t : State) : (overtakeOrder side s t).sa = t.sa := by unfold overtakeOrder; split <;> rfl
@[simp] theorem overtakeOrder_lc (side : Side) (s t : State) : (overtakeOrder side s t).lc = t.lc := by unfold overtakeOrder; split <;> rfl
@[simp] theorem overtakeOrder_ml (side : Side) (s t : State) : (overtakeOrder side s t).ml = t.ml := by unfold overtakeOrder; split <;> rfl
@[simp] theorem overtakeOrder_events (side : Side) (s t : State) : (overtakeOrder side s t).events = t.events := by unfold overtakeOrder; split <;> rfl
@[simp] theorem overtakeOrder_freeCount (side : Side) (s t : State) : (overtakeOrder side s t).freeCount = t.freeCount := by unfold overtakeOrder; split <;> rfl
@[simp] theorem overtakeOrder_pending (side : Side) (s t : State) : (overtakeOrder side s t).pending = t.pending := by unfold overtakeOrder; split <;> rfl

/-- The mark of the doff timer: set where it runs before and after, else as it was. -/
theorem overtakeDoff_overtaken (s t : State) : (overtakeDoff s t).overtaken =
    { t.overtaken with
      doff := if s.df.doffTimer.mode = .running ∧ t.df.doffTimer.mode = .running then true else t.overtaken.doff } := by
  unfold overtakeDoff; split <;> simp [*]

/-- The mark of an order timer: set where it runs before and after, else as it was. -/
theorem overtakeOrder_overtaken (side : Side) (s t : State) : (overtakeOrder side s t).overtaken =
    { t.overtaken with
      orders :=
        if (s.carriage side).timer.running = true ∧ (t.carriage side).timer.running = true then
          t.overtaken.orders.set side true
        else t.overtaken.orders } := by
  cases h : (s.carriage side).timer.running <;> cases g : (t.carriage side).timer.running <;> simp [overtakeOrder, h, g]

end Sys2Proof.Machine
end

