-- ==== Sys2Proof/Laws/Access.lean ====
section
/-! SUPPORT. Reading after writing: a write of one spindle, cell, segment, list, carriage, station, event class or forecast gives
the value written there and leaves every other place alone. -/

namespace Sys2Proof.Machine

/-! ### Tables kept as lists -/

/-- What `modify` reads back as, with a default. -/
theorem getD_modify {α : Type} (l : List α) (i j : Nat) (f : α → α) (d : α) :
    (l.modify i f).getD j d = if i = j ∧ j < l.length then f (l.getD j d) else l.getD j d := by
  simp only [List.getD_eq_getElem?_getD, List.getElem?_modify]
  by_cases h : j < l.length
  · by_cases hij : i = j <;> simp [h, hij]
  · by_cases hij : i = j <;> simp [h]

/-! ### Spindles -/

theorem spindle_modSpindle (n m : Nat) (f : Spindle → Spindle) (s : State) :
    (modSpindle n f s).spindle m =
      if m = n ∧ 1 ≤ n ∧ n ≤ s.spindles.length then f (s.spindle m) else s.spindle m := by
  unfold modSpindle State.spindle
  rcases Nat.eq_zero_or_pos n with hn | hn
  · simp [hn]
  · have hn' : ¬ n = 0 := by omega
    simp only [hn', if_false, getD_modify]
    rcases Nat.eq_zero_or_pos m with hm | hm
    · subst hm; simp; omega
    · have hm' : ¬ m = 0 := by omega
      simp only [hm', if_false]
      split <;> split <;> first | rfl | omega

theorem spindle_modSpindle_self (n : Nat) (f : Spindle → Spindle) (s : State) (h1 : 1 ≤ n) (h2 : n ≤ s.spindles.length) :
    (modSpindle n f s).spindle n = f (s.spindle n) := by
  rw [spindle_modSpindle, if_pos ⟨rfl, h1, h2⟩]

theorem spindle_modSpindle_other (n m : Nat) (f : Spindle → Spindle) (s : State) (h : ¬ m = n) :
    (modSpindle n f s).spindle m = s.spindle m := by
  rw [spindle_modSpindle, if_neg (fun x => h x.1)]

/-- A spindle that is not VACANT stands in the table. -/
theorem spindle_in_table (s : State) (n : Nat) (h : ¬ (s.spindle n).state = .vacant) : 1 ≤ n ∧ n ≤ s.spindles.length := by
  unfold State.spindle at h
  rcases Nat.eq_zero_or_pos n with hn | hn
  · subst hn; exact absurd rfl h
  · refine ⟨hn, ?_⟩
    by_contra hl
    have hn' : ¬ n = 0 := by omega
    rw [if_neg hn', List.getD_eq_getElem?_getD, List.getElem?_eq_none (by omega)] at h
    exact h rfl

@[simp] theorem modSpindle_spindles_length (n : Nat) (f : Spindle → Spindle) (s : State) :
    (modSpindle n f s).spindles.length = s.spindles.length := by
  unfold modSpindle; split <;> simp

@[simp] theorem spindle_setList (side : Side) (l : List Entry) (s : State) (n : Nat) :
    (setList side l s).spindle n = s.spindle n := rfl

@[simp] theorem spindle_modCarriage (side : Side) (f : Carriage → Carriage) (s : State) (n : Nat) :
    (modCarriage side f s).spindle n = s.spindle n := rfl

@[simp] theorem spindle_modEntry (m : Nat) (f : Entry → Entry) (s : State) (n : Nat) :
    (modEntry m f s).spindle n = s.spindle n := rfl

@[simp] theorem spindle_dropEntry (m : Nat) (s : State) (n : Nat) : (dropEntry m s).spindle n = s.spindle n := rfl

@[simp] theorem spindle_modCounters (f : ShiftCounters → ShiftCounters) (s : State) (n : Nat) :
    (modCounters f s).spindle n = s.spindle n := rfl

@[simp] theorem spindle_placeOrder (side : Side) (k : OrderKind) (s : State) (n : Nat) :
    (placeOrder side k s).spindle n = s.spindle n := rfl

@[simp] theorem spindle_raiseEvent (id : EventId) (d : Nat) (s : State) (n : Nat) :
    (raiseEvent id d s).spindle n = s.spindle n := by unfold State.spindle; simp

/-! ### Cells, counts and forecasts -/

theorem cell_modCell (n m : Nat) (f : Cell → Cell) (s : State) :
    (modCell n f s).cell m = if m = n ∧ 1 ≤ n ∧ n ≤ s.si.cells.length then f (s.cell m) else s.cell m := by
  unfold modCell State.cell
  rcases Nat.eq_zero_or_pos n with hn | hn
  · simp [hn]
  · have hn' : ¬ n = 0 := by omega
    simp only [hn', if_false, getD_modify]
    rcases Nat.eq_zero_or_pos m with hm | hm
    · subst hm; simp; omega
    · have hm' : ¬ m = 0 := by omega
      simp only [hm', if_false]
      split <;> split <;> first | rfl | omega

theorem counts_modCounts (n m : Nat) (f : SegmentCounts → SegmentCounts) (s : State) :
    (modCounts n f s).counts m = if m = n ∧ 1 ≤ n ∧ n ≤ s.si.segments.length then f (s.counts m) else s.counts m := by
  unfold modCounts State.counts
  rcases Nat.eq_zero_or_pos n with hn | hn
  · simp [hn]
  · have hn' : ¬ n = 0 := by omega
    simp only [hn', if_false, getD_modify]
    rcases Nat.eq_zero_or_pos m with hm | hm
    · subst hm; simp; omega
    · have hm' : ¬ m = 0 := by omega
      simp only [hm', if_false]
      split <;> split <;> first | rfl | omega

theorem forecast_setForecast (n m : Nat) (x : Option Nat) (s : State) :
    (setForecast n x s).forecast m = if m = n ∧ 1 ≤ n ∧ n ≤ s.rm.forecasts.length then x else s.forecast m := by
  unfold setForecast State.forecast
  rcases Nat.eq_zero_or_pos n with hn | hn
  · simp [hn]
  · have hn' : ¬ n = 0 := by omega
    simp only [hn', if_false, List.getD_eq_getElem?_getD, List.getElem?_set]
    rcases Nat.eq_zero_or_pos m with hm | hm
    · subst hm; simp; omega
    · have hm' : ¬ m = 0 := by omega
      simp only [hm', if_false]
      by_cases he : n - 1 = m - 1
      · have : m = n := by omega
        subst this
        by_cases hl : m - 1 < s.rm.forecasts.length
        · have : m ≤ s.rm.forecasts.length := by omega
          simp [hl, this]; omega
        · have h1 : ¬ m ≤ s.rm.forecasts.length := by omega
          rw [List.getElem?_eq_none (by omega)]
          simp [hl, h1]
      · have : ¬ m = n := by omega
        simp [he, this]

/-! ### Lists and carriages -/

theorem list_setList (side x : Side) (l : List Entry) (s : State) :
    (setList side l s).list x = if x = side then l else s.list x := by
  cases side <;> cases x <;> rfl

@[simp] theorem list_setList_self (side : Side) (l : List Entry) (s : State) : (setList side l s).list side = l := by
  rw [list_setList, if_pos rfl]

theorem carriage_modCarriage (side x : Side) (f : Carriage → Carriage) (s : State) :
    (modCarriage side f s).carriage x = if x = side then f (s.carriage x) else s.carriage x := by
  cases side <;> cases x <;> rfl

@[simp] theorem carriage_modCarriage_self (side : Side) (f : Carriage → Carriage) (s : State) :
    (modCarriage side f s).carriage side = f (s.carriage side) := by
  rw [carriage_modCarriage, if_pos rfl]

@[simp] theorem list_modCarriage (side x : Side) (f : Carriage → Carriage) (s : State) :
    (modCarriage side f s).list x = s.list x := rfl

@[simp] theorem list_modSpindle (n : Nat) (f : Spindle → Spindle) (x : Side) (s : State) :
    (modSpindle n f s).list x = s.list x := by unfold modSpindle; split <;> rfl

@[simp] theorem list_setListStatus (n : Nat) (v : ListStatus) (x : Side) (s : State) :
    (setListStatus n v s).list x = s.list x := list_modSpindle _ _ _ _

@[simp] theorem list_modCounters (f : ShiftCounters → ShiftCounters) (x : Side) (s : State) :
    (modCounters f s).list x = s.list x := rfl

@[simp] theorem list_raiseEvent (id : EventId) (d : Nat) (x : Side) (s : State) :
    (raiseEvent id d s).list x = s.list x := by unfold State.list; simp

@[simp] theorem carriage_setList (side x : Side) (l : List Entry) (s : State) :
    (setList side l s).carriage x = s.carriage x := rfl

@[simp] theorem carriage_modEntry (n : Nat) (f : Entry → Entry) (x : Side) (s : State) :
    (modEntry n f s).carriage x = s.carriage x := rfl

@[simp] theorem carriage_dropEntry (n : Nat) (x : Side) (s : State) : (dropEntry n s).carriage x = s.carriage x := rfl

@[simp] theorem carriage_modSpindle (n : Nat) (f : Spindle → Spindle) (x : Side) (s : State) :
    (modSpindle n f s).carriage x = s.carriage x := by unfold modSpindle; split <;> rfl

@[simp] theorem carriage_setListStatus (n : Nat) (v : ListStatus) (x : Side) (s : State) :
    (setListStatus n v s).carriage x = s.carriage x := carriage_modSpindle _ _ _ _

@[simp] theorem carriage_raiseEvent (id : EventId) (d : Nat) (x : Side) (s : State) :
    (raiseEvent id d s).carriage x = s.carriage x := by unfold State.carriage; simp

theorem list_modEntry (n : Nat) (f : Entry → Entry) (x : Side) (s : State) :
    (modEntry n f s).list x =
      if x = sideOf n then (s.list x).map (fun e => if e.spindle = n then f e else e) else s.list x := by
  unfold modEntry
  rw [list_setList]
  split
  · next h => rw [h]
  · rfl

theorem list_dropEntry (n : Nat) (x : Side) (s : State) :
    (dropEntry n s).list x = if x = sideOf n then (s.list x).filter (fun e => !(e.spindle == n)) else s.list x := by
  unfold dropEntry
  rw [list_setList]
  split
  · next h => rw [h]
  · rfl

/-- A spindle whose entry was dropped has none. -/
@[simp] theorem listed_dropEntry (n : Nat) (s : State) : (dropEntry n s).listed n = false := by
  unfold State.listed State.entry?
  rw [list_dropEntry, if_pos rfl, Option.isSome_eq_false_iff, Option.isNone_iff_eq_none, List.find?_eq_none]
  intro e he
  simpa using (List.mem_filter.mp he).2

/-! ### Stations and events -/

theorem find?_map_station (l : List Station) (a b : Nat) (f : Station → Station) (hf : ∀ e, (f e).address = e.address) :
    (l.map (fun e => if e.address = a then f e else e)).find? (fun e => e.address == b) =
      if b = a then (l.find? (fun e => e.address == b)).map f else l.find? (fun e => e.address == b) := by
  induction l with
  | nil => simp
  | cons e rest ih =>
    simp only [List.map_cons, List.find?_cons]
    by_cases hea : e.address = a
    · by_cases hb : b = a
      · subst hb; simp [hea, hf]
      · have hab : (a == b) = false := by simpa using fun x => hb x.symm
        simp [hea, hf, hb, hab, ih]
    · by_cases heb : e.address = b
      · have : ¬ b = a := fun x => hea (heb.trans x)
        simp [heb, this]
      · have hbeq : (e.address == b) = false := by simp [heb]
        simp only [hea, if_false, hbeq, ih]

/-- The station read after a write that keeps addresses. -/
theorem station_modStation (a b : Nat) (f : Station → Station) (s : State) (hf : ∀ e, (f e).address = e.address)
    (h : b = a → ∃ e ∈ s.lc.stations, e.address = a) :
    (modStation a f s).station b = if b = a then f (s.station b) else s.station b := by
  unfold State.station modStation
  simp only [find?_map_station _ _ _ _ hf]
  split
  · next hb =>
    obtain ⟨e, he, hea⟩ := h hb
    subst hb
    cases hfind : s.lc.stations.find? (fun e => e.address == b) with
    | none => exact absurd (List.find?_eq_none.mp hfind e he) (by simp [hea])
    | some x => rfl
  · rfl

theorem event_modEvent (c d : Nat) (f : EventClass → EventClass) (s : State) :
    (modEvent c f s).event d = if d = c ∧ c < s.events.length then f (s.event d) else s.event d := by
  unfold modEvent State.event
  simp only [getD_modify]
  split <;> split <;> first | rfl | omega

@[simp] theorem event_originate (b : Body) (s : State) (d : Nat) : (originate b s).event d = s.event d := rfl

end Sys2Proof.Machine
end

