-- ==== Sys2Proof/Laws/Counts.lean ====
section
/-! SUPPORT. The number of counted spindles, from the list law. -/

namespace Sys2Proof.Machine

/-- The table is the list of its records by number. -/
theorem spindles_eq_map (s : State) : s.spindles = (List.range s.spindles.length).map (fun i => s.spindle (i + 1)) := by
  apply List.ext_getElem
  · simp
  · intro i h₁ h₂
    simp [State.spindle, h₁]

/-- Where the list law holds, the counted spindles are at most those of the geometry (R1, R4). -/
theorem ListLaw.counted_le {s : State} (h : ListLaw s) :
    (s.spindles.filter (fun p => p.counted)).length ≤ s.countedSpindles := by
  obtain ⟨hlen, -, -, -, -, -, -, hrec⟩ := h
  rw [spindles_eq_map s, hlen, List.filter_map, List.length_map]
  have hsub : (List.range 1920).filter ((fun p : Spindle => p.counted) ∘ fun i => s.spindle (i + 1)) ⊆
      List.range (24 * s.ps.inForce.segmentsA) ++ List.range' 960 (24 * s.ps.inForce.segmentsB) := by
    intro i hi
    simp only [List.mem_filter, List.mem_range, Function.comp_apply] at hi
    have hn : i + 1 ∈ allSpindles := by simp only [allSpindles, List.mem_map, List.mem_range]; exact ⟨i, hi.1, rfl⟩
    have hv := (hrec _ hn).1
    have hf : s.fitted (segmentOf (i + 1)) = true := by
      by_contra hc
      have := hv.2 (by simpa using hc)
      simp [Spindle.counted, this] at hi
    simp only [State.fitted, fittedIn, segmentOf, Bool.or_eq_true, Bool.and_eq_true] at hf
    have hi₁ := hi.1
    simp only [List.mem_append, List.mem_range, List.mem_range'_1]
    rcases hf with ⟨h₁, h₂⟩ | ⟨h₁, h₂⟩
    · have := of_decide_eq_true h₂; omega
    · have := of_decide_eq_true h₁; have := of_decide_eq_true h₂; omega
  have hnd := (List.nodup_range (n := 1920)).filter ((fun p : Spindle => p.counted) ∘ fun i => s.spindle (i + 1))
  have := (hnd.subperm hsub).length_le
  simp only [List.length_append, List.length_range, List.length_range'] at this
  unfold State.countedSpindles
  omega
end Sys2Proof.Machine
end

