-- ==== Sys2Proof/Laws/Dispatch.lean ====
section
/-! SUPPORT. What admission, selection, parking and the return of a piece can do: each changes the dispatcher and, of a spindle's
record, state and list status only; and admission leaves a list full or nobody outside it (R69). -/

namespace Sys2Proof.Machine

/-! ### Records that differ in dispatch only -/

theorem Spindle.sameButDispatch_refl (p : Spindle) : p.sameButDispatch p := rfl

theorem Spindle.sameButDispatch_trans {p q r : Spindle} (h1 : p.sameButDispatch q) (h2 : q.sameButDispatch r) :
    p.sameButDispatch r := by
  unfold Spindle.sameButDispatch at *
  rw [h2, h1]

/-- The step from one state to another touches the dispatcher, and of the records state and list status, only. -/
def DispatchOnly (s t : State) : Prop :=
  t = { s with spindles := t.spindles, pd := t.pd } ∧ t.spindles.length = s.spindles.length ∧
  ∀ n, (s.spindle n).sameButDispatch (t.spindle n)

theorem DispatchOnly.refl (s : State) : DispatchOnly s s := ⟨rfl, rfl, fun _ => rfl⟩

theorem DispatchOnly.trans {s t u : State} (h1 : DispatchOnly s t) (h2 : DispatchOnly t u) : DispatchOnly s u := by
  obtain ⟨e1, l1, p1⟩ := h1
  obtain ⟨e2, l2, p2⟩ := h2
  refine ⟨?_, l2.trans l1, fun n => Spindle.sameButDispatch_trans (p1 n) (p2 n)⟩
  rw [e2, e1]

/-- A change of the dispatcher's own state. -/
theorem DispatchOnly.of_pd (s : State) (d : Dispatcher) : DispatchOnly s { s with pd := d } :=
  ⟨rfl, rfl, fun _ => rfl⟩

/-- A change of one record's state and list status. -/
theorem DispatchOnly.modSpindle (n : Nat) (f : Spindle → Spindle) (s : State) (hf : ∀ p, Spindle.sameButDispatch p (f p)) :
    DispatchOnly s (modSpindle n f s) := by
  refine ⟨?_, by simp, fun m => ?_⟩
  · unfold Machine.modSpindle; split <;> rfl
  · rw [spindle_modSpindle]; split
    · exact hf _
    · rfl

theorem DispatchOnly.setListStatus (n : Nat) (x : ListStatus) (s : State) : DispatchOnly s (setListStatus n x s) :=
  DispatchOnly.modSpindle n _ s (fun _ => rfl)

theorem DispatchOnly.setList (side : Side) (l : List Entry) (s : State) : DispatchOnly s (setList side l s) :=
  DispatchOnly.of_pd s _

theorem DispatchOnly.modEntry (n : Nat) (f : Entry → Entry) (s : State) : DispatchOnly s (modEntry n f s) :=
  DispatchOnly.of_pd s _

theorem DispatchOnly.modCarriage (side : Side) (f : Carriage → Carriage) (s : State) : DispatchOnly s (modCarriage side f s) :=
  DispatchOnly.of_pd s _

theorem DispatchOnly.placeOrder (side : Side) (k : OrderKind) (s : State) : DispatchOnly s (placeOrder side k s) :=
  DispatchOnly.of_pd s _

theorem DispatchOnly.enterIdle (side : Side) (s : State) : DispatchOnly s (enterIdle side s) := DispatchOnly.of_pd s _

theorem DispatchOnly.emptySlot (side : Side) (s : State) : DispatchOnly s (emptySlot side s) := DispatchOnly.of_pd s _

theorem DispatchOnly.returnToWaiting (n : Nat) (s : State) : DispatchOnly s (returnToWaiting n s) :=
  (DispatchOnly.modSpindle n (fun p => { p with state := .down, listStatus := .waiting }) s (fun _ => rfl)).trans
    (DispatchOnly.modEntry n _ _)

theorem DispatchOnly.takeBackPiece (side : Side) (s : State) : DispatchOnly s (takeBackPiece side s) := by
  unfold Machine.takeBackPiece; split
  · exact DispatchOnly.returnToWaiting _ s
  · exact DispatchOnly.refl s

theorem DispatchOnly.cancelPiece (n : Nat) (s : State) : DispatchOnly s (cancelPiece n s) := by
  unfold Machine.cancelPiece; split
  · split
    · exact DispatchOnly.placeOrder _ _ s
    · exact DispatchOnly.refl s
  · exact DispatchOnly.refl s

theorem DispatchOnly.parkCarriage (side : Side) (s : State) : DispatchOnly s (parkCarriage side s) := by
  unfold Machine.parkCarriage; split
  · exact DispatchOnly.placeOrder _ _ s
  · exact (DispatchOnly.takeBackPiece side s).trans (DispatchOnly.placeOrder _ _ _)
  · exact (DispatchOnly.takeBackPiece side s).trans (DispatchOnly.placeOrder _ _ _)
  · exact DispatchOnly.refl s
  · exact DispatchOnly.refl s
  · exact DispatchOnly.refl s

theorem DispatchOnly.returnCarriage (side : Side) (s : State) : DispatchOnly s (returnCarriage side s) := by
  unfold Machine.returnCarriage
  simp only
  split
  · exact DispatchOnly.enterIdle side s
  · split
    · exact DispatchOnly.refl s
    · exact (DispatchOnly.emptySlot side s).trans (DispatchOnly.enterIdle side _)
  all_goals exact DispatchOnly.refl s

/-! ### Selection -/

theorem DispatchOnly.assignPiece (side : Side) (n : Nat) (s : State) : DispatchOnly s (assignPiece side n s) := by
  let s1 := Machine.modEntry n (fun e => { e with status := .assigned, carriage := some side }) s
  let s2 := Machine.modSpindle n (fun q => { q with state := .servicing, listStatus := .assigned }) s1
  have h1 : DispatchOnly s s1 := DispatchOnly.modEntry n _ s
  have h2 : DispatchOnly s1 s2 := DispatchOnly.modSpindle n _ s1 (fun _ => rfl)
  exact (h1.trans h2).trans ((DispatchOnly.modCarriage side _ s2).trans (DispatchOnly.placeOrder side _ _))

/-- The least element of a list is one of the list. -/
theorem leastBy_mem {before : Entry → Entry → Bool} {l : List Entry} {e : Entry} (h : leastBy before l = some e) :
    e ∈ l := by
  induction l generalizing e with
  | nil => cases h
  | cons x rest ih =>
    unfold leastBy at h
    cases hr : leastBy before rest with
    | none => rw [hr] at h; cases h; exact List.mem_cons_self
    | some m =>
      rw [hr] at h
      simp only at h
      split at h <;> cases h
      · exact List.mem_cons_of_mem _ (ih hr)
      · exact List.mem_cons_self

theorem leastBy_eq_none {before : Entry → Entry → Bool} {l : List Entry} : leastBy before l = none ↔ l = [] := by
  cases l with
  | nil => simp [leastBy]
  | cons x rest =>
    simp only [leastBy, reduceCtorEq, iff_false]
    split
    · simp
    · split <;> simp

/-- Selection for a carriage: nothing, a reversal that finds nothing, or a WAITING entry of the side given to it, after the sweep
is reversed where it had to be (R77 to R80). -/
theorem selectFor_cases (side : Side) (s : State) :
    selectFor side s = s ∨
    (dispatchable side s = true ∧
      (selectFor side s = modCarriage side (fun c => { c with direction := c.direction.reverse }) s ∨
        ∃ e ∈ s.list side, e.status = .waiting ∧
          (selectFor side s = assignPiece side e.spindle s ∨
            selectFor side s =
              assignPiece side e.spindle (modCarriage side (fun c => { c with direction := c.direction.reverse }) s)))) := by
  unfold selectFor
  split
  · next hd =>
    right
    refine ⟨hd, ?_⟩
    split
    · next e he =>
      right
      have hm := List.mem_filter.mp (leastBy_mem he)
      refine ⟨e, hm.1, ?_, .inl rfl⟩
      have := hm.2
      simp only [State.aged, Bool.and_eq_true, beq_iff_eq] at this
      exact this.1
    · split
      · next e he =>
        right
        have hm := List.mem_filter.mp (leastBy_mem he)
        refine ⟨e, hm.1, ?_, .inl rfl⟩
        have := hm.2
        simp only [Bool.and_eq_true, beq_iff_eq] at this
        exact this.1.1
      · simp only
        split
        · next e he =>
          right
          have hm := List.mem_filter.mp (leastBy_mem he)
          refine ⟨e, ?_, ?_, .inr rfl⟩
          · simpa using hm.1
          · have := hm.2
            simp only [Bool.and_eq_true, beq_iff_eq] at this
            exact this.1.1
        · exact .inl rfl
  · exact .inl rfl

theorem DispatchOnly.selectFor (side : Side) (s : State) : DispatchOnly s (selectFor side s) := by
  obtain h | ⟨_, h | ⟨e, _, _, h | h⟩⟩ := selectFor_cases side s <;> rw [h]
  · exact DispatchOnly.refl s
  · exact DispatchOnly.modCarriage side _ s
  · exact DispatchOnly.assignPiece side _ s
  · exact (DispatchOnly.modCarriage side _ s).trans (DispatchOnly.assignPiece side _ _)

theorem DispatchOnly.selectBoth (s : State) : DispatchOnly s (selectBoth s) :=
  (DispatchOnly.selectFor .A s).trans (DispatchOnly.selectFor .B _)

/-- A carriage that may not be given a PIECE is given none. -/
theorem selectFor_not_dispatchable (side : Side) (s : State) (h : dispatchable side s = false) : selectFor side s = s := by
  unfold selectFor; simp [h]

/-! ### Admission -/

theorem DispatchOnly.admitOne (n : Nat) (s : State) : DispatchOnly s (admitOne n s) :=
  (DispatchOnly.setList _ _ s).trans (DispatchOnly.setListStatus n _ _)

theorem DispatchOnly.admitLoop (fuel : Nat) (side : Side) (s : State) : DispatchOnly s (admitLoop fuel side s) := by
  induction fuel generalizing s with
  | zero => exact DispatchOnly.refl s
  | succ fuel ih =>
    unfold Machine.admitLoop
    split
    · split
      · exact (DispatchOnly.admitOne _ s).trans (ih _)
      · exact DispatchOnly.refl s
    · exact DispatchOnly.refl s

theorem DispatchOnly.admission (side : Side) (s : State) : DispatchOnly s (admission side s) := DispatchOnly.admitLoop 48 side s

theorem DispatchOnly.admitThenSelect (side : Side) (s : State) : DispatchOnly s (admitThenSelect side s) := by
  unfold Machine.admitThenSelect
  simp only
  split
  · exact (DispatchOnly.admission side s).trans (DispatchOnly.selectFor side _)
  · exact DispatchOnly.admission side s

theorem DispatchOnly.afterRemoval (b : Bool) (side : Side) (s : State) : DispatchOnly s (afterRemoval b side s) := by
  unfold Machine.afterRemoval
  split
  · exact (DispatchOnly.admission side s).trans (DispatchOnly.selectFor side _)
  · exact DispatchOnly.refl s

/-- The spindle that goes in first waits outside, and is one of the side's. -/
theorem oldestOutside_some {side : Side} {s : State} {n : Nat} (h : oldestOutside side s = some n) :
    n ∈ sideSpindles side ∧ waitsOutside (s.spindle n) = true := by
  unfold oldestOutside at h
  suffices key : ∀ (l : List Nat) (best : Option Nat),
      (∀ b, best = some b → b ∈ sideSpindles side ∧ waitsOutside (s.spindle b) = true) → (∀ x ∈ l, x ∈ sideSpindles side) →
      l.foldl (fun best n =>
        if waitsOutside (s.spindle n) then
          match best with
          | none => some n
          | some m => if admittedBefore s n m then some n else some m
        else best) best = some n → n ∈ sideSpindles side ∧ waitsOutside (s.spindle n) = true from
    key _ none (by simp) (fun _ h => h) h
  intro l
  induction l with
  | nil => intro best hb _ h; exact hb n h
  | cons x rest ih =>
    intro best hb hl h
    simp only [List.foldl_cons] at h
    refine ih _ ?_ (fun y hy => hl y (List.mem_cons_of_mem _ hy)) h
    intro b hbb
    split at hbb
    · next hw =>
      split at hbb
      · cases hbb; exact ⟨hl _ List.mem_cons_self, hw⟩
      · split at hbb
        · cases hbb; exact ⟨hl _ List.mem_cons_self, hw⟩
        · cases hbb; exact hb _ rfl
    · exact hb b hbb

/-- When none goes in, none waits outside. -/
theorem oldestOutside_none {side : Side} {s : State} (h : oldestOutside side s = none) :
    ∀ n ∈ sideSpindles side, waitsOutside (s.spindle n) = false := by
  unfold oldestOutside at h
  suffices key : ∀ (l : List Nat) (best : Option Nat),
      l.foldl (fun best n =>
        if waitsOutside (s.spindle n) then
          match best with
          | none => some n
          | some m => if admittedBefore s n m then some n else some m
        else best) best = none → best = none ∧ ∀ n ∈ l, waitsOutside (s.spindle n) = false from
    (key _ none h).2
  intro l
  induction l with
  | nil => intro best h; exact ⟨h, by simp⟩
  | cons x rest ih =>
    intro best h
    simp only [List.foldl_cons] at h
    obtain ⟨h1, h2⟩ := ih _ h
    split at h1
    · split at h1
      · cases h1
      · split at h1 <;> cases h1
    · next hw =>
      refine ⟨h1, fun n hn => ?_⟩
      obtain rfl | hn := List.mem_cons.mp hn
      · simpa using hw
      · exact h2 n hn

theorem sideOf_sideSpindles {side : Side} {n : Nat} (h : n ∈ sideSpindles side) : sideOf n = side := by
  cases side <;> simp [sideSpindles, List.mem_map, List.mem_range, sideOf] at h ⊢ <;> omega

theorem list_admitOne (n : Nat) (side : Side) (s : State) :
    (admitOne n s).list side =
      if side = sideOf n then
        s.list side ++ [{ spindle := n, admittedAt := s.dc.runClock, status := .waiting, carriage := none,
                          passedOver := false, holdPending := false, window := none }]
      else s.list side := by
  unfold admitOne
  rw [list_setListStatus, list_setList]
  split
  · next h => rw [h]
  · rfl

/-- Admission leaves the list full or nobody outside it (R69). -/
theorem admission_fills (side : Side) (s : State) :
    48 ≤ ((admission side s).list side).length ∨
      ∀ n ∈ sideSpindles side, waitsOutside ((admission side s).spindle n) = false := by
  suffices key : ∀ (fuel : Nat) (s : State), 48 ≤ (s.list side).length + fuel →
      (48 ≤ ((admitLoop fuel side s).list side).length ∨
        ∀ n ∈ sideSpindles side, waitsOutside ((admitLoop fuel side s).spindle n) = false) from
    key 48 s (by omega)
  intro fuel
  induction fuel with
  | zero => intro s h; exact .inl (by simpa [admitLoop] using h)
  | succ fuel ih =>
    intro s h
    unfold admitLoop
    split
    · split
      · next n hn =>
        apply ih
        have := sideOf_sideSpindles (oldestOutside_some hn).1
        rw [list_admitOne, if_pos this.symm]
        simp
        omega
      · next hn => exact .inr (oldestOutside_none hn)
    · next hr =>
      left
      simpa [State.listHasRoom] using hr

/-- Admission only adds entries at the tail, each of a spindle of the side that waited outside. -/
theorem admission_list (side : Side) (s : State) :
    (∀ x, ¬ x = side → (admission side s).list x = s.list x) ∧
    ∃ added, (admission side s).list side = s.list side ++ added ∧
      ∀ e ∈ added, e.status = .waiting ∧ e.holdPending = false ∧ e.spindle ∈ sideSpindles side ∧
        waitsOutside (s.spindle e.spindle) = true := by
  suffices key : ∀ (fuel : Nat) (s : State),
      (∀ x, ¬ x = side → (admitLoop fuel side s).list x = s.list x) ∧
      ∃ added, (admitLoop fuel side s).list side = s.list side ++ added ∧
        ∀ e ∈ added, e.status = .waiting ∧ e.holdPending = false ∧ e.spindle ∈ sideSpindles side ∧
          waitsOutside (s.spindle e.spindle) = true from
    key 48 s
  intro fuel
  induction fuel with
  | zero => intro s; exact ⟨fun _ _ => rfl, [], by simp [admitLoop], by simp⟩
  | succ fuel ih =>
    intro s
    unfold admitLoop
    split
    · split
      · next n hn =>
        obtain ⟨hmem, hw⟩ := oldestOutside_some hn
        have hside := sideOf_sideSpindles hmem
        obtain ⟨h1, added, h2, h3⟩ := ih (admitOne n s)
        refine ⟨fun x hx => ?_,
          { spindle := n, admittedAt := s.dc.runClock, status := .waiting, carriage := none, passedOver := false,
            holdPending := false, window := none } :: added, ?_, ?_⟩
        · rw [h1 x hx, list_admitOne, if_neg (by rw [hside]; exact hx)]
        · rw [h2, list_admitOne, if_pos hside.symm]
          simp
        · intro e he
          obtain rfl | he := List.mem_cons.mp he
          · exact ⟨rfl, rfl, hmem, hw⟩
          · obtain ⟨a, b, c, d⟩ := h3 e he
            refine ⟨a, b, c, ?_⟩
            by_cases hen : e.spindle = n
            · rw [hen]; exact hw
            · rw [← d]
              unfold admitOne setListStatus
              rw [spindle_modSpindle_other _ _ _ _ hen]
              rfl
      · exact ⟨fun _ _ => rfl, [], by simp, by simp⟩
    · exact ⟨fun _ _ => rfl, [], by simp, by simp⟩

end Sys2Proof.Machine
end

