-- ==== Sys2Proof/Laws/Link.lean ====
section
/-! SUPPORT. What becomes of a request at the mill link: taken and answered, passed on, or discarded (R194, R196). -/

namespace Sys2Proof.Machine

/-- The state on which a taken request is judged: a broadcast's copy has gone on toward DOWN (R194). -/
def State.judgedAt (s : State) (f : RawFrame) (h : ReqFrame) : State :=
  if h.dest = s.frameNumber then s else joinThroughDown f s

/-- A frame that goes on toward DOWN changes the through-down queue and the port counts only. -/
theorem joinThroughDown_eq (f : RawFrame) (s : State) :
    joinThroughDown f s =
      { s with ml.throughDown := (joinThroughDown f s).ml.throughDown, ml.counts := (joinThroughDown f s).ml.counts } := by
  unfold joinThroughDown; split <;> rfl

@[simp] theorem joinThroughDown_own (f : RawFrame) (s : State) : (joinThroughDown f s).ml.own = s.ml.own := by
  unfold joinThroughDown; split <;> rfl

@[simp] theorem joinThroughDown_frameNumber (f : RawFrame) (s : State) :
    (joinThroughDown f s).frameNumber = s.frameNumber := by unfold joinThroughDown; split <;> rfl

/-- The judged state differs from the state in the through-down queue and the port counts only. -/
theorem judgedAt_eq (s : State) (f : RawFrame) (h : ReqFrame) :
    s.judgedAt f h =
      { s with ml.throughDown := (s.judgedAt f h).ml.throughDown, ml.counts := (s.judgedAt f h).ml.counts } := by
  unfold State.judgedAt; split
  · rfl
  · exact joinThroughDown_eq f s

/-! ### What an answer leaves as it was -/

/-- An answer changes the through-down queue, the port counts, reset arm and the own queue only. -/
theorem answeredAs_eq (s : State) (f : RawFrame) (h : ReqFrame) (c : Nat) (a : Answer) (d : ReplyData) :
    s.answeredAs f h c a d =
      { s with
        ml.throughDown := (s.judgedAt f h).ml.throughDown
        ml.counts := (s.judgedAt f h).ml.counts
        ml.resetArm := false
        ml.own := if h.dest = 255 then s.ml.own
                  else s.ml.own ++ [{ dest := h.src, src := s.frameNumber, seq := h.seq, body := .reply c a d }] } := by
  unfold State.answeredAs State.judgedAt
  by_cases h1 : h.dest = s.frameNumber
  · simp [h1]
  · simp only [h1, if_false]
    unfold joinThroughDown
    split <;> rfl

@[simp] theorem answeredAs_powered (s : State) (f : RawFrame) (h : ReqFrame) (c : Nat) (a : Answer) (d : ReplyData) :
    (s.answeredAs f h c a d).powered = s.powered := by rw [answeredAs_eq]
@[simp] theorem answeredAs_ps (s : State) (f : RawFrame) (h : ReqFrame) (c : Nat) (a : Answer) (d : ReplyData) :
    (s.answeredAs f h c a d).ps = s.ps := by rw [answeredAs_eq]
@[simp] theorem answeredAs_dc (s : State) (f : RawFrame) (h : ReqFrame) (c : Nat) (a : Answer) (d : ReplyData) :
    (s.answeredAs f h c a d).dc = s.dc := by rw [answeredAs_eq]
@[simp] theorem answeredAs_spindles (s : State) (f : RawFrame) (h : ReqFrame) (c : Nat) (a : Answer) (d : ReplyData) :
    (s.answeredAs f h c a d).spindles = s.spindles := by rw [answeredAs_eq]
@[simp] theorem answeredAs_si (s : State) (f : RawFrame) (h : ReqFrame) (c : Nat) (a : Answer) (d : ReplyData) :
    (s.answeredAs f h c a d).si = s.si := by rw [answeredAs_eq]
@[simp] theorem answeredAs_pd (s : State) (f : RawFrame) (h : ReqFrame) (c : Nat) (a : Answer) (d : ReplyData) :
    (s.answeredAs f h c a d).pd = s.pd := by rw [answeredAs_eq]
@[simp] theorem answeredAs_df (s : State) (f : RawFrame) (h : ReqFrame) (c : Nat) (a : Answer) (d : ReplyData) :
    (s.answeredAs f h c a d).df = s.df := by rw [answeredAs_eq]
@[simp] theorem answeredAs_rm (s : State) (f : RawFrame) (h : ReqFrame) (c : Nat) (a : Answer) (d : ReplyData) :
    (s.answeredAs f h c a d).rm = s.rm := by rw [answeredAs_eq]
@[simp] theorem answeredAs_sa (s : State) (f : RawFrame) (h : ReqFrame) (c : Nat) (a : Answer) (d : ReplyData) :
    (s.answeredAs f h c a d).sa = s.sa := by rw [answeredAs_eq]
@[simp] theorem answeredAs_lc (s : State) (f : RawFrame) (h : ReqFrame) (c : Nat) (a : Answer) (d : ReplyData) :
    (s.answeredAs f h c a d).lc = s.lc := by rw [answeredAs_eq]
@[simp] theorem answeredAs_events (s : State) (f : RawFrame) (h : ReqFrame) (c : Nat) (a : Answer) (d : ReplyData) :
    (s.answeredAs f h c a d).events = s.events := by rw [answeredAs_eq]
@[simp] theorem answeredAs_overtaken (s : State) (f : RawFrame) (h : ReqFrame) (c : Nat) (a : Answer) (d : ReplyData) :
    (s.answeredAs f h c a d).overtaken = s.overtaken := by rw [answeredAs_eq]
@[simp] theorem answeredAs_freeCount (s : State) (f : RawFrame) (h : ReqFrame) (c : Nat) (a : Answer) (d : ReplyData) :
    (s.answeredAs f h c a d).freeCount = s.freeCount := by rw [answeredAs_eq]
@[simp] theorem answeredAs_pending (s : State) (f : RawFrame) (h : ReqFrame) (c : Nat) (a : Answer) (d : ReplyData) :
    (s.answeredAs f h c a d).pending = s.pending := by rw [answeredAs_eq]
@[simp] theorem answeredAs_ml_throughUp (s : State) (f : RawFrame) (h : ReqFrame) (c : Nat) (a : Answer) (d : ReplyData) :
    (s.answeredAs f h c a d).ml.throughUp = s.ml.throughUp := by rw [answeredAs_eq]
@[simp] theorem answeredAs_ml_upTx (s : State) (f : RawFrame) (h : ReqFrame) (c : Nat) (a : Answer) (d : ReplyData) :
    (s.answeredAs f h c a d).ml.upTx = s.ml.upTx := by rw [answeredAs_eq]
@[simp] theorem answeredAs_ml_downTx (s : State) (f : RawFrame) (h : ReqFrame) (c : Nat) (a : Answer) (d : ReplyData) :
    (s.answeredAs f h c a d).ml.downTx = s.ml.downTx := by rw [answeredAs_eq]
@[simp] theorem answeredAs_ml_lastServed (s : State) (f : RawFrame) (h : ReqFrame) (c : Nat) (a : Answer) (d : ReplyData) :
    (s.answeredAs f h c a d).ml.lastServed = s.ml.lastServed := by rw [answeredAs_eq]
@[simp] theorem answeredAs_ml_downConnected (s : State) (f : RawFrame) (h : ReqFrame) (c : Nat) (a : Answer) (d : ReplyData) :
    (s.answeredAs f h c a d).ml.downConnected = s.ml.downConnected := by rw [answeredAs_eq]
@[simp] theorem answeredAs_ml_upLink (s : State) (f : RawFrame) (h : ReqFrame) (c : Nat) (a : Answer) (d : ReplyData) :
    (s.answeredAs f h c a d).ml.upLink = s.ml.upLink := by rw [answeredAs_eq]
@[simp] theorem answeredAs_ml_ownSeq (s : State) (f : RawFrame) (h : ReqFrame) (c : Nat) (a : Answer) (d : ReplyData) :
    (s.answeredAs f h c a d).ml.ownSeq = s.ml.ownSeq := by rw [answeredAs_eq]
@[simp] theorem answeredAs_ml_passTable (s : State) (f : RawFrame) (h : ReqFrame) (c : Nat) (a : Answer) (d : ReplyData) :
    (s.answeredAs f h c a d).ml.passTable = s.ml.passTable := by rw [answeredAs_eq]
@[simp] theorem answeredAs_ml_recipe (s : State) (f : RawFrame) (h : ReqFrame) (c : Nat) (a : Answer) (d : ReplyData) :
    (s.answeredAs f h c a d).ml.recipe = s.ml.recipe := by rw [answeredAs_eq]
@[simp] theorem answeredAs_ml_lastReset (s : State) (f : RawFrame) (h : ReqFrame) (c : Nat) (a : Answer) (d : ReplyData) :
    (s.answeredAs f h c a d).ml.lastReset = s.ml.lastReset := by rw [answeredAs_eq]
@[simp] theorem answered_powered (s : State) (h : ReqFrame) (c : Nat) (a : Answer) (d : ReplyData) :
    (s.answered h c a d).powered = s.powered := answeredAs_powered ..
@[simp] theorem answered_ps (s : State) (h : ReqFrame) (c : Nat) (a : Answer) (d : ReplyData) :
    (s.answered h c a d).ps = s.ps := answeredAs_ps ..
@[simp] theorem answered_dc (s : State) (h : ReqFrame) (c : Nat) (a : Answer) (d : ReplyData) :
    (s.answered h c a d).dc = s.dc := answeredAs_dc ..
@[simp] theorem answered_spindles (s : State) (h : ReqFrame) (c : Nat) (a : Answer) (d : ReplyData) :
    (s.answered h c a d).spindles = s.spindles := answeredAs_spindles ..
@[simp] theorem answered_si (s : State) (h : ReqFrame) (c : Nat) (a : Answer) (d : ReplyData) :
    (s.answered h c a d).si = s.si := answeredAs_si ..
@[simp] theorem answered_pd (s : State) (h : ReqFrame) (c : Nat) (a : Answer) (d : ReplyData) :
    (s.answered h c a d).pd = s.pd := answeredAs_pd ..
@[simp] theorem answered_df (s : State) (h : ReqFrame) (c : Nat) (a : Answer) (d : ReplyData) :
    (s.answered h c a d).df = s.df := answeredAs_df ..
@[simp] theorem answered_rm (s : State) (h : ReqFrame) (c : Nat) (a : Answer) (d : ReplyData) :
    (s.answered h c a d).rm = s.rm := answeredAs_rm ..
@[simp] theorem answered_sa (s : State) (h : ReqFrame) (c : Nat) (a : Answer) (d : ReplyData) :
    (s.answered h c a d).sa = s.sa := answeredAs_sa ..
@[simp] theorem answered_lc (s : State) (h : ReqFrame) (c : Nat) (a : Answer) (d : ReplyData) :
    (s.answered h c a d).lc = s.lc := answeredAs_lc ..
@[simp] theorem answered_events (s : State) (h : ReqFrame) (c : Nat) (a : Answer) (d : ReplyData) :
    (s.answered h c a d).events = s.events := answeredAs_events ..
@[simp] theorem answered_overtaken (s : State) (h : ReqFrame) (c : Nat) (a : Answer) (d : ReplyData) :
    (s.answered h c a d).overtaken = s.overtaken := answeredAs_overtaken ..
@[simp] theorem answered_freeCount (s : State) (h : ReqFrame) (c : Nat) (a : Answer) (d : ReplyData) :
    (s.answered h c a d).freeCount = s.freeCount := answeredAs_freeCount ..
@[simp] theorem answered_pending (s : State) (h : ReqFrame) (c : Nat) (a : Answer) (d : ReplyData) :
    (s.answered h c a d).pending = s.pending := answeredAs_pending ..
@[simp] theorem answered_ml_throughUp (s : State) (h : ReqFrame) (c : Nat) (a : Answer) (d : ReplyData) :
    (s.answered h c a d).ml.throughUp = s.ml.throughUp := answeredAs_ml_throughUp ..
@[simp] theorem answered_ml_upTx (s : State) (h : ReqFrame) (c : Nat) (a : Answer) (d : ReplyData) :
    (s.answered h c a d).ml.upTx = s.ml.upTx := answeredAs_ml_upTx ..
@[simp] theorem answered_ml_downTx (s : State) (h : ReqFrame) (c : Nat) (a : Answer) (d : ReplyData) :
    (s.answered h c a d).ml.downTx = s.ml.downTx := answeredAs_ml_downTx ..
@[simp] theorem answered_ml_lastServed (s : State) (h : ReqFrame) (c : Nat) (a : Answer) (d : ReplyData) :
    (s.answered h c a d).ml.lastServed = s.ml.lastServed := answeredAs_ml_lastServed ..
@[simp] theorem answered_ml_downConnected (s : State) (h : ReqFrame) (c : Nat) (a : Answer) (d : ReplyData) :
    (s.answered h c a d).ml.downConnected = s.ml.downConnected := answeredAs_ml_downConnected ..
@[simp] theorem answered_ml_upLink (s : State) (h : ReqFrame) (c : Nat) (a : Answer) (d : ReplyData) :
    (s.answered h c a d).ml.upLink = s.ml.upLink := answeredAs_ml_upLink ..
@[simp] theorem answered_ml_ownSeq (s : State) (h : ReqFrame) (c : Nat) (a : Answer) (d : ReplyData) :
    (s.answered h c a d).ml.ownSeq = s.ml.ownSeq := answeredAs_ml_ownSeq ..
@[simp] theorem answered_ml_passTable (s : State) (h : ReqFrame) (c : Nat) (a : Answer) (d : ReplyData) :
    (s.answered h c a d).ml.passTable = s.ml.passTable := answeredAs_ml_passTable ..
@[simp] theorem answered_ml_recipe (s : State) (h : ReqFrame) (c : Nat) (a : Answer) (d : ReplyData) :
    (s.answered h c a d).ml.recipe = s.ml.recipe := answeredAs_ml_recipe ..
@[simp] theorem answered_ml_lastReset (s : State) (h : ReqFrame) (c : Nat) (a : Answer) (d : ReplyData) :
    (s.answered h c a d).ml.lastReset = s.ml.lastReset := answeredAs_ml_lastReset ..

/-! ### Taken requests -/

/-- A request that is taken is answered with its verdict, and then has its effect. -/
theorem routeUp_taken (f : RawFrame) (h : ReqFrame) (code : Nat) (judge : State → Verdict) (s : State)
    (hd : f.dest = h.dest) (ht : s.takes h) :
    routeUp f (takeRequest h code judge) s =
      (judge (s.judgedAt f h)).effect
        (s.answeredAs f h code (judge (s.judgedAt f h)).answer (judge (s.judgedAt f h)).data) := by
  obtain ⟨_, hdest, hroom⟩ := ht
  unfold routeUp takeRequest State.judgedAt State.answeredAs
  rw [hd]
  by_cases h1 : h.dest = s.frameNumber
  · by_cases h2 : h.dest = 255 <;> simp [h1, State.ownHasRoom, hroom, queueOwn] <;> split <;> rfl
  · have h2 : h.dest = 255 := hdest.resolve_left h1
    have h3 : ¬ 255 = s.frameNumber := fun x => h1 (h2.trans x)
    simp [h2, h3, State.ownHasRoom, hroom]

/-- A REQUEST without required arguments that is taken. -/
theorem plainRequest_taken (h : ReqFrame) (code : Nat) (judge : State → Verdict) (s : State) (ht : s.takes h) :
    plainRequest h code judge s =
      (judge (s.judgedAt (requestFrame h) h)).effect
        (s.answered h code (judge (s.judgedAt (requestFrame h) h)).answer
          (judge (s.judgedAt (requestFrame h) h)).data) :=
  routeUp_taken _ _ _ _ _ rfl ht

/-- A REQUEST with required arguments, taken with a payload long enough to hold them. -/
theorem argRequest_taken (h : ReqFrame) (code : Nat) (judge : State → Verdict) (s : State) (ht : s.takes h)
    (hs : h.short = false) :
    argRequest h code judge s =
      (judge (s.judgedAt (requestFrame h) h)).effect
        (s.answered h code (judge (s.judgedAt (requestFrame h) h)).answer
          (judge (s.judgedAt (requestFrame h) h)).data) := by
  unfold argRequest
  rw [plainRequest_taken _ _ _ _ ht]
  simp [hs]

/-- A REQUEST with required arguments whose payload is too short is refused with ARGUMENT (R197). -/
theorem argRequest_short (h : ReqFrame) (code : Nat) (judge : State → Verdict) (s : State) (ht : s.takes h)
    (hs : h.short = true) : argRequest h code judge s = s.answered h code .argument .empty := by
  unfold argRequest
  rw [plainRequest_taken _ _ _ _ ht]
  simp [hs, refuse]

/-- A powered part takes the command's effect. -/
theorem onSupply_powered (f : State → State) (s : State) (h : s.powered = true) : onSupply f s = .next (f s) := by
  unfold onSupply; simp [h]

/-- Every command answers a next state: none stops the part. -/
theorem exec_next (i : Instr) (s : State) : ∃ t, exec i s = .next t := by
  cases i <;> exact ⟨_, rfl⟩

/-- Every step answers a next state. -/
theorem step_next (s : State) : ∃ t, step s = .next t := by
  unfold step
  split
  · exact exec_next _ _
  · exact ⟨_, rfl⟩

end Sys2Proof.Machine
end

