-- ==== Sys2Proof/Laws/Waiting.lean ====
section
/-! SUPPORT. What the passes a READ_ROVING waits for can do (R152), and when a RELEASE_ALL finds something to clear (R76). -/

namespace Sys2Proof.Machine

/-- Taking one pass after another keeps whatever each pass keeps. -/
theorem takePasses_keeps {P : State → Prop} (h : ∀ s, P s → P (takeNextPass s)) (n : Nat) :
    ∀ s, P s → P (takePasses n s) := by
  induction n with
  | zero => exact fun _ hs => hs
  | succ n ih =>
    intro s hs
    unfold takePasses
    split
    · exact ih _ (h s hs)
    · exact hs

/-- With no room for the answer no pass is taken. -/
theorem takePasses_full (n : Nat) (s : State) (h : s.ownHasRoom = false) : takePasses n s = s := by
  cases n <;> simp [takePasses, h]

/-- The next pass is the one at the head, taken as its own command takes it. -/
theorem takeNextPass_cons {p : Pass} {rest : List Pass} {s : State} (h : s.rm.due = p :: rest) :
    takeNextPass s = takeDue p s ∧
      takeDue p s = runPass p { s with rm.due := rest, rm.asked := s.rm.asked - 1 } := by
  simp [takeNextPass, takeDue, h]

theorem State.holdsAnything_iff (s : State) :
    s.holdsAnything = true ↔ s.pd.globalHold = true ∨ (∃ p ∈ s.spindles, p.held = true) ∨
      ∃ side, ∃ e ∈ s.list side, e.holdPending = true := by
  constructor
  · intro h
    simp only [State.holdsAnything, Bool.or_eq_true, List.any_eq_true] at h
    rcases h with ((h | h) | h) | h
    · exact .inl h
    · exact .inr (.inl h)
    · exact .inr (.inr ⟨.A, h⟩)
    · exact .inr (.inr ⟨.B, h⟩)
  · simp only [State.holdsAnything, Bool.or_eq_true, List.any_eq_true]
    rintro (h | h | ⟨side, h⟩)
    · exact .inl (.inl (.inl h))
    · exact .inl (.inl (.inr h))
    · cases side
      · exact .inl (.inr h)
      · exact .inr h

end Sys2Proof.Machine
end

