-- ==== Sys2Proof/Tests/Slice0.lean ====
section
/-! SUPPORT. Tests: ill-formed commands, the manual's worked examples and tables (the source stands in each docstring), and for
every statement with hypotheses a witness that meets them. -/

namespace Sys2Proof.Tests

-- One proof at a time: checked side by side, the evaluations below hold more threads at once than the memory limit allows.
set_option Elab.async false

open Sys2Proof Sys2Proof.Machine

/-! ### Ill-formed commands -/

/-- A request's frame to the part at State.reset (frame number 250). -/
def req : ReqFrame := { dest := 250, src := 3, seq := 7, raw := [], short := false }

/-- A mill frame that fits its fields. -/
def frame : RawFrame := { dest := 9, src := 3, type := 2, seq := 1, payload := [] }

/-- The same with a code byte as its payload. -/
def coded (c : Byte) : ReqFrame := { req with raw := [c] }

theorem test_wf_accepts : (Instr.status (coded 0x01) true).wf = true ∧ (Instr.throughUpFrame frame).wf = true := by decide

/-- R196, R214: byte 0 of a REQUEST's payload is its request code. -/
theorem test_wf_request_carries_its_code :
    (Instr.holdAll (coded 0x22)).wf = true ∧ (Instr.holdAll (coded 0x23)).wf = false ∧ (Instr.holdAll req).wf = false ∧
    (Instr.unknownRequest req 0).wf = true ∧ (Instr.unknownRequest req 0x13).wf = false := by decide

theorem test_wf_frame_number_fits_a_byte : (Instr.throughDownFrame { frame with dest := 256 }).wf = false ∧
    (Instr.throughUpFrame { frame with src := 256 }).wf = false ∧
    (Instr.throughUpFrame { frame with type := 256 }).wf = false := by decide

theorem test_wf_sequence_fits_two_bytes : (Instr.throughDownFrame { frame with seq := 65536 }).wf = false ∧
    (Instr.readDoff { coded 0x39 with seq := 65536 }).wf = false := by decide

theorem test_wf_payload_is_at_most_1024_bytes :
    (Instr.throughDownFrame { frame with payload := List.replicate 1025 0 }).wf = false ∧
    (Instr.readDoff { req with raw := 0x39#8 :: List.replicate 1024 0 }).wf = false := by decide +kernel

theorem test_wf_request_header_fits : (Instr.readDoff { coded 0x39 with dest := 256 }).wf = false ∧
    (Instr.readDoff { coded 0x39 with src := 256 }).wf = false := by decide

theorem test_wf_misdirected_frame_is_no_request_and_no_order :
    (Instr.misdirectedFrame { frame with type := 1 }).wf = false ∧
    (Instr.misdirectedFrame { frame with type := 4 }).wf = false := by decide

theorem test_wf_unknown_request_names_no_request : (Instr.unknownRequest (coded 0x10) 0x10).wf = false ∧
    (Instr.unknownRequest (coded 0x00) 256).wf = false ∧ (Instr.unknownRequest (coded 0x13) 0x13).wf = true := by decide

theorem test_wf_ranges_of_operands : (Instr.segmentPass 81).wf = false ∧ (Instr.segmentPass 0).wf = false ∧
    (Instr.verifyWindowExpiry 1921).wf = false ∧ (Instr.verifyWindowExpiry 0).wf = false ∧
    (Instr.setMask (coded 0x06) [true]).wf = false ∧ (Instr.clearEvents (coded 0x08) [16]).wf = false ∧
    (Instr.shiftClose (coded 0x48) 65536).wf = false := by decide

/-! ### Formats (chapter 11) -/

/-- R213: the CRC of the nine ASCII digits 123456789 is 29B1h. -/
theorem test_crc_of_the_nine_digits :
    crc16 [0x31, 0x32, 0x33, 0x34, 0x35, 0x36, 0x37, 0x38, 0x39] = 0x29B1#16 := by decide +kernel

/-- The bytes at offsets 1 to 28 of the worked segment reply (11, "Worked example: one segment reply, byte by byte"). -/
def workedReplyBody : List Byte :=
  [0x00, 0x09, 0x08, 0x00, 0x00, 0x3A, 0x00, 0x14] ++
  [0x08, 0x0C, 0x12, 0x20, 0x11, 0x11, 0x11, 0x11, 0x11, 0x11, 0x11, 0x11, 0x11, 0x11] ++
  [0x09, 0x04, 0x03, 0x0C, 0x00, 0x00]

/-- The worked reply's message. -/
def workedReply : List Byte := 0xA5#8 :: workedReplyBody ++ crcBytes workedReplyBody

/-- The worked reply: 31 bytes, report number 58, a SAMPLE and an EXCHANGE. -/
theorem test_worked_reply_is_read :
    workedReply.length = 31 ∧
    (parseLineMessage workedReply).map (fun m => (m.dest, m.src, m.kind, m.reportNumber, m.present)) =
      some (0, 9, 8, 58, false) ∧
    (parseLineMessage workedReply).map (fun m => m.reports.map (fun r => (r.kind, r.body.length))) =
      some [(8, 12), (9, 4)] := by decide +kernel

/-- The worked reply's readings: SPINNING, END_DOWN, END_DOWN, UNREAD, then SPINNING twenty times; positions 5 and 6. -/
theorem test_worked_reply_readings :
    sampleReadings ((workedReplyBody.drop 10).take 12) =
      [some .spinning, some .endDown, some .endDown, none] ++ List.replicate 20 (some .spinning) ∧
    exchangedPositions [0x0C, 0x00, 0x00] = [5, 6] := by decide +kernel

/-- A message with one bit of its check changed is a failed one (R215). -/
theorem test_failed_check : parseLineMessage (0xA5#8 :: workedReplyBody ++ [0x00, 0x00]) = none := by decide +kernel

/-- A STATION_REPORT of the worked EXCHANGE is 11 bytes in a mill frame of 21 bytes (11, the same example). -/
theorem test_worked_report_sizes :
    let f : OwnFrame := { dest := 0, src := 1, seq := 0, body := .report 9 9 60000 [0x03, 0x0C, 0x00, 0x00] }
    f.raw.map (fun r => (r.type, r.payload.length, (RawFrame.encode r).length)) = some (5, 11, 21) := by decide +kernel

/-- R217: a spindle record is 32 bytes, a shift record 74. -/
theorem test_record_sizes :
    (SpindleView.encode
      { number := 213, state := .down, held := false, slow := false, lotReported := false, latched := some .endDown,
        attempts := 1, breaks := 2, listStatus := .waiting, breakMark := some 5, produced := 687500, cop := 0,
        remaining := some 1190368, fillMass := some 1200 }).length = 32 ∧
    ((shiftRecord State.reset none).encode 0).length = 74 := by decide +kernel

/-! ### Arithmetic (chapter 3) -/

/-- 3.3, "pulses across a reset, a loss and a replacement": 637 pulses from 12,800 to 13,437, and 41,571 from 24,000 to 35. -/
theorem test_worked_pulses :
    pulseDelta (some 12800) 13437 = 637 ∧ advanceLength 5001040 0 1300 637 = (5001868, 100) ∧
    pulseDelta (some 24000) 35 = 41571 ∧ pulseDelta (some 13437) 24000 = 10563 ∧
    advanceLength 5001868 100 1300 4000 = (5007068, 100) ∧ pulseDelta none 12000 = 0 := by decide

/-- 3.3, the second example: from 65,300 to 514 at 1,325 micrometres with 600 left over. -/
theorem test_pulses_over_the_wrap :
    pulseDelta (some 65300) 514 = 750 ∧ advanceLength 0 600 1325 750 = (994, 350) := by decide

/-- Spindle 213 of the worked shift at frame length 1,720,000 (1.5 and 3.7): shift mark 1,000,000, fill of 1,200 g at
400,000. -/
def spindle213 : Spindle :=
  { Spindle.vacant with
    state := .down, breakMark := some 1700000, lostShift := 12500, lostDoff := 12500, lostFill := 30000,
    fill := some { mark := 400000, mass := 1200 } }

/-- 3.7: produced 687,500 mm, remaining 1,190,368 mg, forecast 8,718 min; at tex10 80 remaining 1,189,586 mg. -/
theorem test_worked_spindle :
    runningLength spindle213 1720000 1000000 12500 = 687500 ∧
    remaining Recipe.default spindle213 1720000 = some 1190368 ∧
    forecastMinutes Recipe.default 1190368 = 8718 ∧
    remaining { Recipe.default with countTex10 := 80 } spindle213 1720000 = some 1189586 := by decide

/-- 3.7: the mass of spindle 213's 687,500 mm at tex10 74 is 687,500 × 74 div 10,000 = 5,087 mg (R58). -/
theorem test_spindle_mass : spindleMass Recipe.default 687500 = 5087 := by decide

/-- 3.5, an interval across a shift close: broken at 900,000, closed at 1,050,000 with the shift mark at 1,000,000. -/
theorem test_interval_across_a_shift_close :
    let p := closeInterval 1050000 1000000 800000
      { Spindle.vacant with
        state := .down, breakMark := some 900000, fill := some { mark := 400000, mass := 1200 } }
    (p.lostShift, p.lostDoff, p.lostFill, p.breakMark) = (50000, 150000, 150000, none) := by decide

/-! ### The line (chapter 9) -/

/-- R177: the default schedule of the default geometry, and of 10 segments: a group after the eighth and after the last. -/
theorem test_default_schedule :
    defaultSchedule 1 0 = [1, 96, 97, 98, 99] ∧
    defaultSchedule 10 0 = [1, 2, 3, 4, 5, 6, 7, 8, 96, 97, 98, 99, 9, 10, 96, 97, 98, 99] ∧
    (defaultSchedule 30 30).length = 92 ∧ (defaultSchedule 40 40).length = 120 := by decide +kernel

/-! ### States for the tests of commands and for the witnesses -/

/-- A counted spindle that spins. -/
def spinning : Spindle := { Spindle.vacant with state := .spinning }

/-- A counted spindle that is down since `mark`, with its list status. -/
def down (mark : Nat) (x : ListStatus) : Spindle := { Spindle.vacant with state := .down, breakMark := some mark, listStatus := x }

/-- The state with spindle `n`'s record replaced. -/
def put (n : Nat) (p : Spindle) (s : State) : State := { s with spindles := s.spindles.set (n - 1) p }

/-- A WAITING entry. -/
def waiting (n admittedAt : Nat) : Entry :=
  { spindle := n, admittedAt := admittedAt, status := .waiting, carriage := none, passedOver := false, holdPending := false,
    window := none }

/-- An IDLE carriage at a position, going UP. -/
def idleAt (x : Nat) : Carriage := { Carriage.initial with state := .idle, position := x, awaiting := false }

/-- A frame that spins with its gate OPEN and both carriages IDLE: length 1,720,000, run clock 60,000, own queue empty. -/
def running : State :=
  { State.reset with
    dc := { State.reset.dc with frameLength := 1720000, drive := some .running, firstTaken := true, runClock := 60000 }
    si.gate := .opened
    df.state := .spinning
    sa.mark := 1000000
    df.mark := 1250000
    pd.carriages := { a := idleAt 400, b := idleAt 0 }
    rm.periodRunning := true
    lc.stations := State.reset.lc.stations.map (fun e => { e with found := true })
    ml.own := [] }

/-- The running frame with spindle 5 SERVICING by carriage A, whose PIECE, order 7, is collected. -/
def servicing : State :=
  put 5 { down 1700000 .assigned with state := .servicing }
    { running with
      pd.lists.a := [{ waiting 5 59000 with status := .assigned, carriage := some .A }]
      pd.carriages.a :=
        { idleAt 400 with
          state := .working, slot := some { kind := .piece 5 5, number := 7, collected := true }, nextNumber := 8,
          timer := { left := 180000, running := true } } }

/-- The running frame with spindle 6 VERIFYING after `attempts` failed attempts. -/
def verifying (attempts : Nat) (pendingHold : Bool) : State :=
  put 6 { down 1700000 .verifying with state := .verifying, attempts := attempts }
    { running with
      pd.lists.a :=
        [{ waiting 6 59000 with
           status := .verifying, holdPending := pendingHold, window := some { left := 12000, running := true } }] }

/-- The running frame in another doff state, with both carriages PARKED. -/
def parked (x : DoffState) : State :=
  { running with
    df.state := x
    pd.carriages := { a := { idleAt 0 with state := .parked }, b := { idleAt 0 with state := .parked } } }

/-- The state that a step, or a command, leaves; State.reset if it stopped. -/
def after : Out → State
  | .next t => t
  | .fault _ => State.reset
  | .refused _ => State.reset

/-! ### Selection (4.4, "Worked example: one selection") -/

/-- The example's carriage and list, with an age limit. -/
def selection (ageLimit : Nat) (with702 : Bool) : State :=
  { running with
    ml.recipe.ageLimit := ageLimit
    pd.lists.a :=
      [waiting 120 59650, waiting 390 59900, { waiting 455 59800 with passedOver := true }] ++
        (if with702 then [waiting 702 59950] else []) }

/-- The spindle of the PIECE in carriage A's slot, with the carriage's direction. -/
def chosen (s : State) : Option OrderKind × Direction :=
  ((s.carriage .A).slot.map (fun o => o.kind), (s.carriage .A).direction)

theorem test_selection_age_override :
    chosen (selectFor .A (selection 300 true)) = (some (.piece 120 120), .down) := by decide +kernel

theorem test_selection_sweep_ahead :
    chosen (selectFor .A (selection 600 true)) = (some (.piece 702 702), .up) := by decide +kernel

theorem test_selection_sweep_reversed :
    chosen (selectFor .A (selection 600 false)) = (some (.piece 390 390), .down) := by decide +kernel

/-! ### Commands -/

/-- R22: 5 records from spindle 213 are those of 213 to 216 and 193. -/
theorem test_read_spindles_goes_round_the_segment :
    readOrder 213 5 = [213, 214, 215, 216, 193] := by decide

/-- 2.3, "a segment through a doff restart", + 11.2 s, spindle 194: a second END_DOWN confirms, and the record goes DOWN with
the frame length as its break mark (R13). -/
theorem test_second_reading_confirms :
    let s := put 2 spinning
      { running with si.cells := State.reset.si.cells.set 1 { latched := some .spinning, candidate := some .endDown } }
    let t := takeSample 1 (none :: some .endDown :: List.replicate 22 none) s
    t.cell 2 = { latched := some .endDown, candidate := none } ∧ (t.spindle 2).breakMark = some 1720000 ∧
    (t.spindle 2).breaks = 1 ∧ t.sa.counters.breaks = 1 := by decide +kernel

/-- 1.5, step 4: SPINNING confirmed on spindle 213, VERIFYING since 1,300,000, closes 12,500 mm against the shift and the doff
mark, and carriage A is credited (R16). -/
theorem test_piecing_confirmed :
    let s := put 213 { down 1300000 .verifying with state := .verifying, lostFill := 17500 }
      { running with dc.frameLength := 1312500 }
    let t := confirmChange 213 .spinning s
    ((t.spindle 213).state, (t.spindle 213).breakMark, (t.spindle 213).lostShift, (t.spindle 213).lostDoff) =
      (.spinning, none, 12500, 12500) ∧ t.sa.counters.piecedA = 1 ∧ (t.carriage .A).pieced = 1 := by decide +kernel

/-- 3.3: DRIVE_JUMP is raised with the raw delta, and pulse_limit pulses are applied (R49). -/
theorem test_drive_jump :
    let t := takePulse 24000 .running { running with dc.baseline := some 13437, dc.frameLength := 5001868, dc.rem := 100 }
    (t.dc.frameLength, t.dc.rem, t.dc.baseline) = (5007068, 100, some 24000) ∧ (t.event 2).detail = 10563 ∧
    (t.event 2).flag = true := by decide +kernel

/-- R161: a SHIFT_CLOSE with the open shift's number changes nothing but the queue of answers. -/
theorem test_repeated_shift_close :
    after (exec (.shiftClose req 0) running) =
      { running with
        ml.own := [{ dest := 3, src := 250, seq := 7, body := .reply 0x48 .done .empty }] } := by decide +kernel

/-- R162: SHIFT_CLOSE with a new number sets the shift mark to the frame length and lost since shift to 0. -/
theorem test_new_shift_close :
    let t := after (exec (.shiftClose req 113) (put 3 { spinning with lostShift := 12500, breaks := 2 } running))
    (t.sa.number, t.sa.mark, t.sa.openedAt) = (113, 1720000, 60000) ∧
    ((t.spindle 3).lostShift, (t.spindle 3).breaks) = (0, 0) ∧
    (t.sa.history.map (fun r => r.delivered)) = [720] := by decide +kernel

/-- R200 and the default pass table: an EXCHANGE of a segment is copied to the mill (11, the worked reply). -/
theorem test_exchange_is_forwarded :
    ((forwardReport 9 { kind := 9, body := [0x03, 0x0C, 0x00, 0x00] } running).ml.own.map (fun f => f.body)) =
      [.report 9 9 60000 [0x03, 0x0C, 0x00, 0x00]] := by decide +kernel

/-- R194: a broadcast is handled here and its copy goes on toward DOWN, and no REPLY is queued (R196). -/
theorem test_broadcast :
    let t := after (exec (.holdAll { req with dest := 255 }) { running with ml.downConnected := true })
    t.pd.globalHold = true ∧ t.ml.own = [] ∧ t.ml.throughDown.length = 1 := by decide +kernel

/-- R93, R99: PARKED from a carriage asked to park in DUE takes the frame on to STOPPING when it was the last (R119, R121). -/
theorem test_last_parked_carriage_starts_the_stop :
    let c : Carriage :=
      { idleAt 30 with state := .parking, slot := some { kind := .park, number := 4, collected := true } }
    let s := { parked .due with pd.carriages.a := c }
    let t := takeOutcome .A 4 5 0 s
    t.df.state = .stopping ∧ t.df.driveSlot = some { order := .stop, number := 0 } ∧
    (t.carriage .A).state = .parked := by decide +kernel

/-- R182: the third visit in a row without a reply loses the station, and STATION_LOST is raised with its address. -/
theorem test_third_silence_loses_the_station :
    let s := { running with
      lc.visit := some 99
      lc.stations := running.lc.stations.map (fun e => if e.address = 99 then { e with silence := 2 } else e) }
    let t := after (exec .replyWindowExpiry s)
    (t.station 99).found = false ∧ (t.event 1).detail = 99 ∧ (t.event 1).flag = true := by decide +kernel

/-- R76: a RELEASE_ALL with nothing held changes nothing, though a carriage is IDLE beside an entry passed over, which a selection
would have turned. -/
theorem test_release_all_with_nothing_held :
    let s := { running with pd.lists.a := [{ waiting 455 59800 with passedOver := true }] }
    (after (exec (.releaseAll req) s)).pd = s.pd := by decide +kernel

/-- R214: bytes without an opening mark are skipped; R193: a frame that fails its check is counted at its port. -/
theorem test_bad_frames_are_counted_at_their_mark :
    (after (exec (.badFrame .up [0x00#8, 0xA5#8]) running)).ml.counts.upBad = 0 ∧
    (after (exec (.badFrame .up [0x00#8, 0xC3#8]) running)).ml.counts.upBad = 1 := by decide +kernel

/-- A frame whose carriage A was never heard, with an entry for it to take. -/
def awaitingA : State :=
  put 5 (down 1700000 .waiting)
    { running with
      pd.lists.a := [waiting 5 59000]
      pd.carriages.a := Carriage.initial
      lc.stations := running.lc.stations.map (fun (e : Station) => if e.address = 97 then { e with found := false } else e) }

/-- Carriage A's message with report number 1, own acknowledgement 0 and an OUTCOME 0 of PIECED at position 5. -/
def firstMessage : LineMessage :=
  { dest := 0, src := 97, kind := 0x0B, orderKind := 0, orderNumber := 0, reportNumber := 1, mill := false, present := true,
    payload := [0x0B#8, 0x04#8, 0x00#8, 0x01#8, 0x00#8, 0x05#8] }

/-- R105: the message that finds the carriage collects nothing, and its outcome is stale, though the finding has placed a PIECE. -/
theorem test_finding_message_acknowledges_nothing :
    let t := takeMessage 97 firstMessage awaitingA
    (t.carriage .A).slot = some { kind := .piece 5 5, number := 0, collected := false } ∧
    (t.carriage .A).state = .assigned ∧ (t.carriage .A).stale = 1 ∧ (t.spindle 5).state = .servicing := by decide +kernel

/-- R184, R185: a FRAME_HALT taken during a visit: the HALT wins the line when the visit ends, and the station tries again. -/
theorem test_halt_wins_the_idle_line :
    let s := after (exec (.replyWindowExpiry) (after (exec (.frameHalt req) (after (exec .poll running)))))
    let t := after (exec (.stationMessage firstMessage.encode) s)
    t.lc = s.lc ∧ t.pd = s.pd ∧ (after (exec .halt t)).lc.lineOut.map (fun m => m.dest) = some 127 := by decide +kernel

/-- R185: a FRAME_HALT taken while a message is in progress: the message is answered with its TAKEN, then the HALT goes out; no second
message goes before it. -/
theorem test_message_in_progress_goes_before_the_halt :
    let s := after (exec (.stationMessage firstMessage.encode) (after (exec (.frameHalt req) running)))
    let t := after (exec (.stationMessage { firstMessage with reportNumber := 2 }.encode) s)
    s.lc.lineOut.map (fun m => (m.dest, m.kind)) = some (97, 2) ∧ (s.station 97).lastReport = some 1 ∧ t.lc = s.lc ∧
    (after (exec .halt t)).lc.lineOut.map (fun m => (m.dest, m.kind)) = some (127, 3) := by decide +kernel

/-- R152: a READ_ROVING sent after a FORECAST_NOW finds the full pass taken. -/
theorem test_read_roving_after_forecast_now :
    let t := after (exec (.readRoving req) (after (exec (.forecastNow req) running)))
    t.rm.lastFullPass = some 60000 ∧ t.rm.due = [] ∧ t.ml.own.length = 2 := by decide +kernel

/-- R205: classes 4 and 11 open with their flags set; with one place left behind the REPLY the lower is noticed and the other pends. -/
theorem test_set_mask_notices_in_ascending_class :
    let e : EventClass := { EventClass.clear with flag := true, count := 3, detail := 77, mask := false }
    let s := { running with
      events := (running.events.set 4 e).set 11 e
      ml.own := List.replicate 14 { dest := 0, src := 250, seq := 0, body := .reply 1 .done .empty }
      ml.ownSeq := 65535 }
    let t := after (exec (.setMask req (List.replicate 16 true)) s)
    t.ml.own.drop 15 = [{ dest := 0, src := 250, seq := 65535, body := .notice 4 true 3 77 60000 }] ∧ t.ml.ownSeq = 0 ∧
    (t.event 4).given = true ∧ (t.event 11).given = false ∧ (t.event 11).pending = true := by decide +kernel

/-- Chapter 5, "a piecing called off by starvation": the PIECED of the cancelled order is stale, and the CANCELLED frees the carriage
(R97, R99; log 42). -/
theorem test_piecing_called_off :
    let s := takeOutcome .A 7 1 213 (confirmChange 5 .noRoving servicing)
    let t := takeOutcome .A 8 4 213 s
    (s.carriage .A).state = .working ∧ (s.carriage .A).stale = 1 ∧ (s.carriage .A).position = 400 ∧
    (s.carriage .A).slot = some { kind := .cancel, number := 8, collected := false } ∧ (s.spindle 5).state = .starved ∧
    (t.carriage .A).state = .idle ∧ (t.carriage .A).position = 213 ∧ (t.carriage .A).slot = none ∧
    (t.carriage .A).nextNumber = 9 := by decide +kernel

/-- R133, first row: with DOFF_END done taken first, the expiry that fell together with it leaves RESTARTING; R129: an expiry after
a second has passed is the restart's own. -/
theorem test_doff_end_taken_before_the_expiry :
    let s := { parked .doffing with df.inProgress := true, df.doffTimer := { left := 0, mode := .running } }
    let t := after (exec .doffTimerExpiry (takeDoffEnd true s))
    t.df.state = .restarting ∧ (t.event 9).flag = false ∧
    (after (exec .doffTimerExpiry (after (exec .runClockTick t)))).df.state = .halted ∧
    (after (exec .doffTimerExpiry s)).df.state = .faulted ∧
    (takeDoffEnd true (after (exec .doffTimerExpiry s))).df.state = .restarting := by decide +kernel

/-- R109, third row: with the outcome taken first, the expiry that fell together with it takes no carriage OUT, though the next
PIECE is already placed; with the expiry first the outcome is stale. -/
theorem test_outcome_taken_before_the_expiry :
    let t := after (exec (.orderTimerExpiry .A) (takeOutcome .A 7 2 5 servicing))
    let u := takeOutcome .A 7 2 5 (after (exec (.orderTimerExpiry .A) servicing))
    (t.carriage .A).state = .assigned ∧ (t.event 5).flag = false ∧ (t.carriage .A).timer.running = true ∧
    (u.carriage .A).state = .out ∧ (u.carriage .A).stale = 1 := by decide +kernel

/-- R208: a power loss leaves the stored profile, and the next power-on runs from it where it passes its check. -/
theorem test_power_cycle :
    let p := { Profile.default with frameNumber := 17, segmentsA := 2 }
    let s := { running with ps := { running.ps with stored := p, checkPasses := true } }
    let t := after (exec .powerOn (after (exec .powerLoss s)))
    t.ps.inForce = p ∧ t.frameNumber = 17 ∧ (t.spindle 48).state = .unseen ∧ (t.spindle 49).state = .vacant := by
  decide +kernel

/-- The block's commands have no words, so a fetched word puts none in the queue. -/
theorem test_no_word_spells_a_command :
    decodeTableWord 8 1 = none ∧ (State.reset.withFetchWord 8 1).pending = [] := by decide

/-! ### Witnesses: for each statement with hypotheses, a state and operands that meet them -/

/-- A request too short for its arguments. -/
def shortReq : ReqFrame := { req with short := true }

/-- The running frame with its own queue full. -/
def fullQueue : State :=
  { running with ml.own := List.replicate 16 { dest := 0, src := 250, seq := 0, body := .reply 1 .done .empty } }

/-- `s.takes h` as a test. -/
abbrev taken (s : State) (h : ReqFrame) : Prop := s.takes h

theorem witness_StepTakesTheFrontCommand : { running with pending := [.poll, .halt] }.pending = Instr.poll :: [.halt] := rfl

theorem witness_SecondsAndMillisecondsPass : running.powered = true ∧ running.pending = [] ∧
    running.rm.periodRunning = true := by decide

theorem witness_SupplyGovernsThePart :
    { running with powered := false }.powered = false ∧ ¬ Instr.poll = .powerOn ∧ running.powered = true ∧
    running.ps.busy = false := by decide

theorem witness_WarmResetsKeepTheSpindleRecords :
    running.powered = true ∧ running.spindles.length = 1920 ∧
    taken { running with ml.resetArm := true } req ∧ { running with ml.resetArm := true }.ml.resetArm = true := by
  decide +kernel

theorem witness_PinResetIsWarmAndEmptiesTheMillLink :
    let s := { running with events := running.events.set 4 { EventClass.clear with flag := true, pending := true } }
    let u := { running with
      ps := { running.ps with stored := { Profile.default with segmentsA := 40 }, source := .stored } }
    running.powered = true ∧ running.events.length = 16 ∧ (∀ c < 16, (running.event c).pending = false) ∧
    running.ml.ownSeq < 65536 ∧ (s.event 4).pending = true ∧ s.events.length = 16 ∧
    ({ s with events := State.reset.events.set 0 EventClass.clear }.event 0).flag = false ∧ (s.event 0).flag = true ∧
    ¬ u.ps.stored.segmentsA = u.ps.inForce.segmentsA := by decide

theorem witness_ArmedResetIsALinkReset :
    taken running req ∧ running.ml.resetArm = false ∧ taken { running with ml.resetArm := true } req ∧
    0 < running.events.length := by decide

theorem witness_FullPassesFallDueAndRecomputeEverySegment :
    let s := { running with rm.period := 600, rm.due := [.full] }
    s.powered = true ∧ s.rm.periodRunning = true ∧ s.ml.recipe.forecastPeriod * 60 ≤ s.rm.period ∧ taken s req ∧
    s.rm.due = .full :: [] ∧ s.rm.forecasts.length = 80 ∧ 0 < { s with rm.asked := 1 }.rm.asked := by decide

theorem witness_SegmentPassPlacesItsSegment :
    let s := { running with rm.due := [.segment 1] }
    let u := { running with rm.due := [.segment 80, .full] }
    let v := put 24 { spinning with fill := some { mark := 0, mass := 0 } } s
    s.powered = true ∧ s.rm.due = .segment 1 :: [] ∧ s.rm.forecasts.length = 80 ∧ s.events.length = 16 ∧
    u.rm.due = .segment 80 :: [.full] ∧ v.rm.due = .segment 1 :: [] ∧
    ((segmentSpindles 1).filter (fun n =>
      decide ((v.spindle n).state = .spinning ∧
        remaining v.ml.recipe (v.spindle n) v.dc.frameLength = some 0 ∧ (v.spindle n).lotReported = false))).getLast? =
      some 24 := by decide +kernel

theorem witness_SettleTimerExpiryOpensTheGate :
    let s := { verifying 0 false with si.gate := .settling, si.settle := { left := 0, running := true } }
    s.powered = true ∧ s.si.gate = .settling := by decide

theorem witness_AgedEntriesAreServedOldestFirst :
    let s := { selection 300 true with pd.lists.b := [waiting 1920 1, waiting 961 1] }
    ∀ side ∈ [Side.A, Side.B], s.powered = true ∧ s.df.state = .spinning ∧ s.si.gate = .opened ∧
      s.pd.globalHold = false ∧ (s.carriage side).state = .idle ∧
      (∀ e ∈ s.list side, 1 ≤ e.spindle ∧ e.spindle ≤ s.spindles.length ∧ sideOf e.spindle = side) ∧
      (∃ e ∈ s.list side, s.aged e = true) := by decide +kernel

/-- The sweep with an eligible entry ahead (702), with one only behind (390), and with none. -/
theorem witness_SweepTakesTheNearestEntry :
    let s := selection 600 true
    let u := selection 600 false
    let v := { running with pd.lists.a := [{ waiting 455 59800 with passedOver := true }] }
    (∀ x ∈ [s, u, v], x.df.state = .spinning ∧ x.si.gate = .opened ∧ x.pd.globalHold = false ∧
      (x.carriage .A).state = .idle ∧ (∀ e ∈ x.list .A, x.aged e = false)) ∧
    waiting 702 59950 ∈ s.list .A ∧ (s.carriage .A).position ≤ positionOf 702 ∧
    (∀ e ∈ u.list .A, e.passedOver = true ∨ positionOf e.spindle < (u.carriage .A).position) ∧
    waiting 390 59900 ∈ u.list .A ∧ (∀ e ∈ v.list .A, e.passedOver = true) := by decide +kernel

theorem witness_VerifyWindowExpiryCountsAFailedAttempt :
    (∀ s ∈ [verifying 2 false, verifying 0 true, verifying 0 false],
      s.powered = true ∧ s.windowRuns 6 = true ∧ 6 ≤ s.spindles.length ∧ s.events.length = 16) ∧
    (verifying 2 false).ml.recipe.attemptLimit ≤ ((verifying 2 false).spindle 6).attempts + 1 ∧
    ((verifying 0 true).spindle 6).attempts + 1 < (verifying 0 true).ml.recipe.attemptLimit ∧
    ((verifying 0 true).entry? 6).any (fun e => e.holdPending) = true ∧
    ((verifying 0 false).entry? 6).any (fun e => e.holdPending) = false := by decide +kernel

theorem witness_OrderTimerExpiryTakesTheCarriageOut :
    servicing.powered = true ∧ ¬ Side.B = .A ∧ (servicing.carriage .A).timer.running = true ∧
    ¬ (servicing.carriage .A).state = .out ∧ servicing.events.length = 16 ∧ servicing.servicedBy .A = some 5 ∧
    5 ≤ servicing.spindles.length ∧ servicing.overtaken.orders.get .A = false ∧
    { servicing with overtaken.orders := { a := true, b := false } }.overtaken.orders.get .A = true := by decide +kernel

theorem witness_ParkTimerExpiryEntersStopping :
    let s := { servicing with df.state := .due, df.parkTimer := { left := 0, running := true } }
    s.powered = true ∧ s.df.state = .due ∧ s.df.parkTimer.running = true ∧ s.events.length = 16 ∧
    (s.carriage .A).away = false ∧
    ({ parked .due with df.parkTimer := { left := 0, running := true } }.carriage .A).away = true := by decide

theorem witness_DoffTimerExpiryFaultsOrHalts :
    ∀ x ∈ [DoffState.stopping, .doffing, .restarting],
      let s := { parked x with df.doffTimer := { left := 0, mode := .running } }
      s.powered = true ∧ s.df.doffTimer.mode = .running ∧ s.overtaken.doff = false ∧ s.events.length = 16 ∧ s.df.state = x ∧
      { s with overtaken.doff := true }.overtaken.doff = true := by decide

theorem witness_ProfileStoreIsBusyUntilItCompletes :
    let s := { running with ps.busy := true }
    taken running req ∧ running.ps.busy = false ∧ taken s req ∧ s.powered = true ∧ s.ps.busy = true ∧
    s.events.length = 16 ∧ req.short = false := by decide

/-- The last slot of the schedule, the drive with an order, the doffer with an order, carriage A with one not collected, and
segment 1 with a mill order. -/
theorem witness_PollVisitsTheCursorSlot :
    let s := { running with
      lc.cursor := 5
      df.driveSlot := some { order := .stop, number := 3 }
      df.dofferSlot := some { order := .go 1, number := 4 }
      pd.carriages.a := { idleAt 0 with slot := some { kind := .park, number := 1, collected := false } }
      lc.stations := running.lc.stations.map
        (fun (e : Station) => if e.address = 1 then { e with mailbox := some { kind := 24, payload := [1#8], number := 0 } } else e) }
    s.powered = true ∧ s.lc.visit = none ∧ s.lc.haltWaiting = false ∧
    s.lc.schedule[s.lc.cursor - 1]? = some 99 ∧ s.lc.schedule[1]? = some 96 ∧ s.lc.schedule[2]? = some 97 ∧
    s.lc.schedule[0]? = some 1 ∧ (s.station 1).mailbox.isSome = true ∧
    (∃ o, (s.carriage .A).slot = some o ∧ o.collected = false) := by
  decide +kernel

/-- The third failed visit of a segment, the drive, a carriage and the doffer, by a reply that fails its check. -/
theorem witness_FailedVisitsRaiseSilenceAndLoseTheStation :
    let s : Nat → State := fun a => { servicing with
      lc.visit := some a
      lc.stations := running.lc.stations.map
        (fun (e : Station) => if e.address = a then { e with silence := 2, errors := 63 } else e) }
    (∀ a ∈ [1, 80, 96, 97, 98, 99], (s a).powered = true ∧ (s a).lc.visit = some a ∧
      (∃ e ∈ (s a).lc.stations, e.address = a) ∧ (s a).events.length = 16 ∧ ((s a).station a).found = true ∧
      2 ≤ ((s a).station a).silence ∧ ((s a).station a).errors = 63) ∧
    0xA5#8 ∈ [0xA5#8] ∧ parseLineMessage [0xA5#8] = none ∧ 0xA5#8 ∉ [0x00#8] ∧
    97 = carriageAddress .A ∧ ¬ Side.B = .A ∧ ¬ ((s 97).carriage .A).state = .out ∧ (s 97).servicedBy .A = some 5 ∧
    5 ≤ (s 97).spindles.length ∧ (∀ x ∈ [DoffState.due, .stopping, .doffing, .suspended], (parked x).df.state = x) := by
  decide +kernel

/-- A report in each doff state, with the gate CLOSED and OPEN, and with the span just below and at the target. -/
theorem witness_DriveReportAdvancesTheFrameLength :
    let s := { running with lc.visit := some 96, dc.baseline := some 65300 }
    let u := { running with dc.baseline := some 0 }
    s.powered = true ∧ s.lc.visit = some 96 ∧ (∃ e ∈ s.lc.stations, e.address = 96) ∧
    ¬ (s.station 96).lastReport = some 58 ∧ s.events.length = 16 ∧ u.ml.recipe.pulseLimit < 65535 ∧
    (∀ x ∈ [DoffState.looking, .spinning, .halted, .due, .stopping, .doffing, .suspended, .faulted, .blocked, .restarting],
      (parked x).df.state = x ∧ (parked x).events.length = 16) ∧
    (takePulse 0 .running u).dc.frameLength - u.df.mark < u.ml.recipe.doffTarget ∧
    (let v := { u with dc.frameLength := 5450000 }
     v.ml.recipe.doffTarget ≤ (takePulse 0 .running v).dc.frameLength - v.df.mark) ∧
    ¬ running.si.gate = .closed ∧ State.reset.si.gate = .closed ∧ ¬ State.reset.dc.drive = some .running ∧
    0 < running.ml.recipe.settle := by decide +kernel

/-- Messages of carriage B and of a segment, with and without a HALT that waits, a repeat with an acknowledgement, an empty message, a STATUS_REPLY, an EXCHANGE that
stands before a SAMPLE, and the finding of a carriage that awaits it, with an OUTCOME. -/
theorem witness_StationMessagesAreTakenOrCounted :
    running.powered = true ∧ running.lc.visit = none ∧ running.lc.haltWaiting = false ∧
    (after (exec (.frameHalt req) running)).lc.messageFirst = true ∧
    { running with lc.visit := some 96 }.lc.visit.isSome = true ∧
    (let s := after (exec (.frameHalt req) { running with lc.visit := some 96 })
     s.powered = true ∧ s.lc.haltWaiting = true ∧ s.lc.messageFirst = false) ∧ (∃ e ∈ running.lc.stations, e.address = carriageAddress .B) ∧
    ¬ (running.station (carriageAddress .B)).lastReport = some 255 ∧ (∃ e ∈ running.lc.stations, e.address = 0) ∧
    parseLineMessage [0xA5#8] = none ∧ running.events.length = 16 ∧ 0xA5#8 ∈ [0xA5#8] ∧ 0xA5#8 ∉ [0x00#8] ∧
    parseLineMessage firstMessage.encode = some firstMessage ∧ firstMessage.src = 97 ∧
    (running.station 97).found = true ∧ ({ firstMessage with payload := [] } : LineMessage).payload = [] ∧
    ({ firstMessage with payload := [0x04#8, 0x01#8, 0xFF#8] } : LineMessage).payload =
      BitVec.ofNat 8 0x04 :: BitVec.ofNat 8 [0xFF#8].length :: [0xFF#8] ∧
    (let reports : List Report :=
      [{ kind := 0x09, body := [0x03#8, 0x80#8, 0x00#8, 0x01#8] }, { kind := 0x08, body := List.replicate 12 0x12#8 }]
     let m := { firstMessage with
       src := 1, present := false,
       payload := [0x09#8, 0x04#8, 0x03#8, 0x80#8, 0x00#8, 0x01#8, 0x08#8, 0x0C#8] ++ List.replicate 12 0x12#8 }
     (∃ e ∈ running.lc.stations, e.address = 1) ∧ m.present = false ∧
     ¬ (running.station 1).lastReport = some m.reportNumber ∧ (∀ r ∈ reports, r.kind < 256 ∧ r.body.length < 256) ∧
     m.payload = reports.flatMap (fun r => BitVec.ofNat 8 r.kind :: BitVec.ofNat 8 r.body.length :: r.body)) ∧
    (∃ e ∈ awaitingA.lc.stations, e.address = 97) ∧ (awaitingA.station 97).found = false ∧
    ¬ (awaitingA.station 97).lastReport = some firstMessage.reportNumber ∧ 97 = carriageAddress .A ∧
    (awaitingA.carriage .A).state = .out ∧ (awaitingA.carriage .A).awaiting = true ∧ awaitingA.df.state = .spinning ∧
    firstMessage.payload = 0x0B#8 :: 0x04#8 :: BitVec.ofNat 8 0 :: BitVec.ofNat 8 1 :: [0x00#8, 0x05#8] := by
  decide +kernel

theorem witness_HaltParksTheCarriagesWhereTheyStand :
    let s := { servicing with lc.haltWaiting := true, lc.messageFirst := true }
    s.powered = true ∧ s.lc.haltWaiting = true ∧ s.lc.visit = none ∧ ¬ (s.carriage .A).state = .out ∧
    s.servicedBy .A = some 5 ∧ 5 ≤ s.spindles.length ∧
    ({ s with pd.carriages.b := Carriage.initial }.carriage .B).state = .out := by decide +kernel

/-- The arbiter with both queues holding frames and each of them last served, with a class pending, and with nothing to send; the
DOWN port connected with a frame queued, and not connected. -/
theorem witness_ThePortsSendTheirQueues :
    let own : OwnFrame := { dest := 0, src := 250, seq := 0, body := .reply 1 .done .empty }
    let s := { running with ml.throughUp := [frame], ml.own := [own], ml.throughDown := [frame], ml.downConnected := true }
    let u := { s with
      ml.lastServed := .through
      events := running.events.set 15 { EventClass.clear with flag := true, pending := true } }
    s.powered = true ∧ s.ml.upTx = none ∧ s.ml.upLink = true ∧ s.ml.throughUp = frame :: [] ∧ s.ml.lastServed = .own ∧
    u.ml.own = own :: [] ∧ u.ml.lastServed = .through ∧ (∀ c < 16, (s.event c).pending = false) ∧
    (u.event 15).pending = true ∧ (∀ b < 15, (u.event b).pending = false) ∧
    (running.ml.throughUp = [] ∧ running.ml.own = []) ∧ s.ml.downTx = none ∧ s.ml.downConnected = true ∧
    s.ml.throughDown = frame :: [] ∧ running.ml.downConnected = false := by decide +kernel

theorem witness_ArrivingFramesAreRoutedOrCounted :
    running.powered = true ∧ parseMillFrame [0xC3#8, 0#8] = none ∧ ¬ frame.dest = running.frameNumber ∧
    ¬ frame.dest = 255 ∧ { frame with dest := 250 }.dest = running.frameNumber ∧ ¬ frame.type = 1 ∧ ¬ frame.type = 4 ∧
    { frame with dest := 255 }.dest = 255 ∧ { running with ml.downConnected := true }.ml.downConnected = true ∧
    running.ml.throughDown.length < 8 ∧ taken running req ∧ requestCodes.contains 0x13 = false ∧
    0xC3#8 ∈ [0xC3#8, 0#8] ∧ 0xC3#8 ∉ [0#8] := by decide

theorem witness_RequestsPassOnAreDiscardedOrCutShort :
    linkFrame? (.holdAll { req with dest := 9 }) = some ({ req with dest := 9 }, requestFrame { req with dest := 9 }) ∧
    linkFrame? (.stationOrder { req with dest := 255 }) =
      some ({ req with dest := 255 }, orderFrame { req with dest := 255 }) ∧
    fullQueue.powered = true ∧ ¬ 9 = fullQueue.frameNumber ∧ req.dest = fullQueue.frameNumber ∧
    16 ≤ fullQueue.ml.own.length ∧ { fullQueue with ml.downConnected := true }.ml.throughDown.length < 8 ∧
    argumentCode? (.shiftClose shortReq 0) = some (shortReq, 0x48) ∧ taken running shortReq ∧ shortReq.short = true ∧
    fullQueue.ml.downConnected = false ∧ ¬ 255 = fullQueue.frameNumber := by
  decide

theorem witness_RaisingAClassNoticesItOnce :
    let s := { running with events := running.events.set 3 { EventClass.clear with flag := true, count := 255 } }
    running.events.length = 16 ∧ (running.event 3).flag = false ∧ (running.event 3).mask = true ∧
    running.ml.own.length < 16 ∧ ¬ fullQueue.ml.own.length < 16 ∧ s.events.length = 16 ∧ (s.event 3).flag = true := by
  decide

/-- The first and the last start of the only segment with the longest count, a start that is VACANT, and a count too large. -/
theorem witness_ReadSpindlesReturnsTheSegmentFromTheStart :
    taken running req ∧ req.short = false ∧ ¬ (running.spindle 1).state = .vacant ∧ ¬ (running.spindle 24).state = .vacant ∧
    (running.spindle 25).state = .vacant ∧ ¬ (1 ≤ 25 ∧ 25 ≤ 24) := by decide

theorem witness_ReadsOfTheBlocksChangeNothing :
    taken running req ∧ req.short = false ∧ running.fitted 1 = true ∧ running.fitted 2 = false ∧
    running.ps.busy = false ∧ req.dest = running.frameNumber ∧ running.rm.asked = 0 := by decide

theorem witness_ServiceOutTakesASpindleOffline :
    taken servicing req ∧ req.short = false ∧ ¬ servicing.df.state = .doffing ∧ taken (parked .doffing) req ∧
    (parked .doffing).df.state = .doffing ∧ servicing.servicedBy (sideOf 5) = some 5 ∧
    ¬ (servicing.spindle 5).state = .offline ∧
    (let s := put 24 { down 5 .none with state := .offline } running
     taken s req ∧ (s.spindle 24).state = .offline ∧ s.listed 24 = false) ∧
    (servicing.spindle 1920).state = .vacant := by decide +kernel

theorem witness_ServiceOutTakesASegmentOffline :
    taken servicing req ∧ req.short = false ∧ ¬ servicing.df.state = .doffing ∧ servicing.fitted 1 = true ∧
    servicing.fitted 80 = false ∧ 5 ∈ segmentSpindles 1 ∧ servicing.servicedBy (sideOf 5) = some 5 ∧
    (parked .doffing).df.state = .doffing := by decide +kernel

theorem witness_ServiceInBringsOfflineSpindlesBack :
    let s := put 24 { down 5 .none with state := .offline } running
    taken s req ∧ req.short = false ∧ ¬ s.df.state = .doffing ∧ (s.spindle 24).state = .offline ∧
    ¬ (s.spindle 1).state = .offline ∧ ¬ (s.spindle 1).state = .vacant ∧ s.fitted 1 = true ∧ s.fitted 0 = false ∧
    (parked .doffing).df.state = .doffing := by decide +kernel

theorem witness_SamplesConfirmOnTheSecondAgreeingValue :
    (List.replicate 24 (some Sense.endDown)).length = 24 ∧ running.si.cells.length = 1920 ∧
    running.si.segments.length = 80 ∧ running.si.gate = .opened ∧ ¬ State.reset.si.gate = .opened := by decide +kernel

/-- A spindle of each kind that a confirmed change tells apart. -/
theorem witness_ConfirmedChangesMoveTheRecord :
    let s := put 24 spinning (put 23 { down 5 .none with state := .starved } (put 22 { down 5 .none with state := .rogue }
      (put 21 { down 5 .none with state := .offline } (put 20 { spinning with held := true } servicing))))
    24 ≤ s.spindles.length ∧ (s.spindle 24).state = .spinning ∧ (s.spindle 23).state = .starved ∧
    (s.spindle 22).state = .rogue ∧ (s.spindle 21).state = .offline ∧ (s.spindle 20).held = true ∧
    (s.spindle 5).state = .servicing ∧ (s.spindle 5).breakMark.isSome = true ∧ s.servicedBy (sideOf 5) = some 5 ∧
    (s.spindle 1).state = .unseen ∧ s.listed 24 = false ∧ (s.list (sideOf 24)).length < 48 := by decide +kernel

theorem witness_HoldKeepsASpindleOutOfItsList :
    taken servicing req ∧ req.short = false ∧ ¬ servicing.df.state = .doffing ∧ (servicing.spindle 5).held = false ∧
    (servicing.spindle 5).state = .servicing ∧ servicing.servicedBy (sideOf 5) = some 5 ∧
    taken (verifying 0 false) req ∧ ((verifying 0 false).spindle 6).state = .verifying ∧
    (servicing.spindle 1).state = .unseen ∧ (put 2 { spinning with held := true } running).spindle 2 =
      { spinning with held := true } ∧ (servicing.spindle 25).state = .vacant ∧ (parked .doffing).df.state = .doffing := by
  decide +kernel

theorem witness_SegmentAndGlobalHolds :
    taken servicing req ∧ req.short = false ∧ servicing.fitted 1 = true ∧ servicing.fitted 41 = false ∧
    5 ∈ segmentSpindles 1 ∧ (servicing.spindle 5).held = false ∧ servicing.servicedBy (sideOf 5) = some 5 ∧
    6 ∈ segmentSpindles 1 ∧ ((verifying 0 false).spindle 6).state = .verifying := by decide +kernel

/-- Two spindles held outside the list, with marks that tell them apart. -/
theorem witness_ReleaseClearsHoldsAndAdmits :
    let s := put 2 { down 7 .unlisted with held := true } (put 3 { down 6 .unlisted with held := true } running)
    taken s req ∧ req.short = false ∧ ¬ s.df.state = .doffing ∧ ¬ (s.spindle 2).state = .vacant ∧ sideOf 2 = .A ∧
    s.fitted 1 = true ∧ s.listed 2 = false ∧ 2 ∈ sideSpindles .A ∧ s.fitted 81 = false ∧
    (parked .doffing).df.state = .doffing ∧ (∃ p ∈ s.spindles, p.held = true) ∧
    ¬ (running.pd.globalHold = true ∨ (∃ p ∈ running.spindles, p.held = true) ∨
      ∃ side ∈ [Side.A, Side.B], ∃ e ∈ running.list side, e.holdPending = true) := by decide +kernel

theorem witness_RogueReleaseReturnsASpindleToDispatch :
    let s := put 24 { down 7 .none with state := .rogue, attempts := 3 } running
    let u := { s with pd.lists.a := (List.range 48).map (fun i => waiting (100 + i) 0) }
    taken s req ∧ req.short = false ∧ s.events.length = 16 ∧ ¬ s.df.state = .doffing ∧ (s.spindle 24).state = .rogue ∧
    s.listed 24 = false ∧ (s.spindle 24).held = false ∧ (s.list (sideOf 24)).length < 48 ∧
    48 ≤ (u.list (sideOf 24)).length ∧ u.listed 24 = false ∧ (u.event 3).flag = false ∧ taken u req ∧
    ¬ (s.spindle 1).state = .rogue ∧ (parked .doffing).df.state = .doffing := by decide +kernel

/-- Carriage A with a PIECE, with a CANCEL and with a PARK outstanding; the PIECE's spindle at its first attempt, at its last, and
with a hold pending. -/
theorem witness_OutcomesActByOrderAndKind :
    let withOrder : OrderKind → CarriageState → State := fun k x =>
      { running with
        pd.carriages.a := { idleAt 3 with state := x, slot := some { kind := k, number := 255, collected := true } } }
    servicing.events.length = 16 ∧ ¬ (servicing.carriage .A).state = .out ∧
    (servicing.carriage .A).slot = some { kind := .piece 5 5, number := 7, collected := true } ∧
    (servicing.spindle 5).state = .servicing ∧ 5 ≤ servicing.spindles.length ∧ sideOf 5 = .A ∧
    servicing.listed 5 = true ∧ 0 < servicing.ml.recipe.ageLimit ∧
    ((withOrder .cancel .working).carriage .A).slot = some { kind := .cancel, number := 255, collected := true } ∧
    ((withOrder .park .parking).carriage .A).slot = some { kind := .park, number := 255, collected := true } ∧
    (running.carriage .A).slot = none ∧ (∃ e ∈ (selection 600 false).list .A, e.passedOver = true) ∧
    (servicing.spindle 5).attempts + 1 < servicing.ml.recipe.attemptLimit ∧
    (servicing.entry? 5).any (fun e => e.holdPending) = false ∧
    (let last := modSpindle 5 (fun p => { p with attempts := 2 }) servicing
     (last.spindle 5).attempts + 1 = last.ml.recipe.attemptLimit ∧ (last.spindle 5).state = .servicing ∧
     (last.carriage .A).slot = some { kind := .piece 5 5, number := 7, collected := true } ∧
     ((takeOutcome .A 7 2 5 last).spindle 5).state = .rogue) ∧
    (let hold := modEntry 5 (fun e => { e with holdPending := true }) servicing
     (hold.entry? 5).any (fun e => e.holdPending) = true ∧ (hold.spindle 5).attempts + 1 < hold.ml.recipe.attemptLimit ∧
     ((takeOutcome .A 7 2 5 hold).spindle 5).listStatus = .unlisted) := by decide +kernel

theorem witness_CarriagesGoOutAndComeBack :
    let s := { running with pd.carriages.b := { Carriage.initial with awaiting := false } }
    taken s req ∧ req.short = false ∧ (s.carriage .B).state = .out ∧ ¬ (s.carriage .A).state = .out ∧ ¬ Side.B = .A ∧
    (s.station (carriageAddress .B)).found = true ∧ s.df.state = .spinning ∧
    (State.reset.station (carriageAddress .A)).found = false ∧ servicing.servicedBy .A = some 5 ∧
    ¬ { s with df.state := .due }.df.state = .spinning := by decide +kernel

theorem witness_DoffNowParksTheCarriagesAndWaits :
    taken servicing req ∧ servicing.df.state = .spinning ∧ servicing.events.length = 16 ∧
    (servicing.carriage .A).state = .working ∧ servicing.servicedBy .A = some 5 ∧ 5 ≤ servicing.spindles.length ∧
    taken (parked .halted) req ∧ ((parked .halted).carriage .A).away = true ∧ ((parked .halted).carriage .B).away = true ∧
    ¬ (parked .doffing).df.state = .spinning ∧ ¬ (parked .doffing).df.state = .halted := by decide +kernel

/-- The span of `running` is 470,000 mm, below the target of 4,200,000; `full` is at the target exactly. -/
theorem witness_InhibitAndPermitGovernTheDoff :
    let full := { running with dc.frameLength := 5450000 }
    taken running req ∧ running.dc.frameLength - running.df.mark < running.ml.recipe.doffTarget ∧
    full.dc.frameLength - full.df.mark = full.ml.recipe.doffTarget ∧ full.events.length = 16 ∧
    taken (parked .due) req ∧ (parked .due).df.state = .due ∧ taken (parked .blocked) req ∧
    (parked .blocked).df.state = .blocked ∧
    ({ parked .blocked with dc.drive := some .stopped }.station 96).found = true ∧
    ¬ (parked .blocked).dc.drive = some .stopped := by decide +kernel

theorem witness_SuspendResumeRetryAndConfirm :
    (∀ x ∈ [DoffState.doffing, .suspended, .faulted], taken (parked x) req ∧ (parked x).df.state = x) ∧
    (let s := { parked .faulted with dc.drive := some .stopped }
     taken s req ∧ (s.station 96).found = true ∧ (s.station 99).found = true) ∧
    (parked .faulted).events.length = 16 := by decide +kernel

theorem witness_DofferReportsMoveTheDoff :
    let s := { parked .faulted with df.inProgress := true }
    s.events.length = 16 ∧ s.df.state = .faulted ∧ s.df.inProgress = true ∧ (parked .doffing).df.state = .doffing ∧
    (parked .suspended).df.state = .suspended ∧ (parked .faulted).df.inProgress = false := by decide

theorem witness_FrameHaltAndFrameRun :
    (∀ x ∈ [DoffState.spinning, .due, .stopping, .restarting, .doffing, .looking, .halted, .suspended, .faulted, .blocked],
      taken (parked x) req ∧ (parked x).df.state = x) ∧
    ((parked .halted).station 96).found = true ∧ (parked .halted).dc.drive = some .running ∧
    (parked .halted).dc.frameLength - (parked .halted).df.mark < (parked .halted).ml.recipe.doffTarget ∧
    ({ parked .due with
       pd.carriages.a :=
         { idleAt 3 with state := .parking, slot := some { kind := .park, number := 0, collected := true } } }.carriage
      .A).slot.any (fun (o : CarriageOrder) => decide (o.kind = OrderKind.park)) = true ∧
    ¬ { parked .halted with dc.drive := some .stopped }.dc.drive = some .running ∧ (parked .halted).events.length = 16 ∧
    (let s := { parked .halted with dc.frameLength := 5450000, df.inhibit := false }
     s.ml.recipe.doffTarget ≤ s.dc.frameLength - s.df.mark) := by decide +kernel

theorem witness_RovingSetFillsPositions :
    let s := { running with rm.lots := running.rm.lots.set 15 { mass := 1200, valid := true } }
    taken s req ∧ req.short = false ∧ s.events.length = 16 ∧ ¬ s.df.state = .doffing ∧
    ¬ (s.spindle 24).state = .vacant ∧ s.fitted 1 = true ∧ s.rm.lots[15]? = some { mass := 1200, valid := true } ∧
    s.rm.lots[0]? = some { mass := 1000, valid := false } ∧ s.fitted 2 = false ∧ (parked .doffing).df.state = .doffing := by
  decide +kernel

theorem witness_ExchangesFillTheirPositions :
    let s := { running with rm.lots := running.rm.lots.set 3 { mass := 1200, valid := true } }
    s.events.length = 16 ∧ (∀ i ∈ [1, 24], 1 ≤ i ∧ i ≤ 24) ∧
    (s.rm.lots[3]?).bind (fun lot => if lot.valid = true then some lot.mass else none) = some 1200 ∧
    (s.rm.lots[16]?).bind (fun lot => if lot.valid = true then some lot.mass else none) = none := by decide

theorem witness_ShiftsCloseAndAreRead :
    let s := after (exec (.shiftClose req 65535) running)
    taken s req ∧ req.short = false ∧ s.events.length = 16 ∧ 65535 = s.sa.number ∧ ¬ 0 = s.sa.number ∧
    (s.sa.history[1 - 1]?).isSome = true ∧ s.sa.history.length < 2 := by decide +kernel

theorem witness_TablesAreLoadedWholeOrNotAtAll :
    let lots : List LotItem := [{ cls := 15, mass := 99, valid := true }, { cls := 15, mass := 4001, valid := false }]
    let pass : List PassItem := [{ kind := 9, entry := closedEntry }]
    let fields : List ProfileItem := [{ field := .segmentsB, value := 41, valid := false }]
    taken running req ∧ req.short = false ∧ 1 ≤ lots.length ∧ lots.length ≤ 16 ∧ (∀ i ∈ lots, i.cls < 16) ∧
    (∀ a ∈ [1, 96, 99], (1 ≤ a ∧ a ≤ 80 ∧ running.fitted a = true) ∨ (96 ≤ a ∧ a ≤ 99)) ∧
    (∀ i ∈ pass, (8 ≤ i.kind ∧ i.kind ≤ 14) ∧ i.entry.segment = .deny ∧ i.entry.drive = .deny ∧ i.entry.carriage = .deny ∧
      i.entry.doffer = .deny) ∧ running.ps.busy = false ∧
    (∀ i ∈ fields, ¬ i.field = .unknown ∧ ¬ i.field = .recipe 0 ∧ ¬ i.field = .lot 16) ∧ ¬ 17 ≤ 16 := by decide

/-- A LOAD_RECIPE of two fields by the gate: in SETTLING, longer and shorter than what has run; and in SPINNING at the target. -/
theorem witness_LoadRecipeTakesEffectOnTheBlocks :
    let items : List RecipeItem := [{ field := 4, value := 0 }, { field := 13, value := 1 }]
    let s := { running with si.gate := .settling, si.settle := { left := 2000, running := true } }
    taken s req ∧ req.short = false ∧ 1 ≤ items.length ∧ items.length ≤ 15 ∧
    (∀ i ∈ items, 1 ≤ i.field ∧ i.field ≤ 15) ∧ s.si.gate = .settling ∧ s.df.state = .spinning ∧
    ¬ (after (exec (.loadRecipe req items) s)).ml.recipe.settle = s.ml.recipe.settle ∧
    ¬ (parked .halted).df.state = .spinning ∧ s.events.length = 16 ∧
    (let u := { selection 600 true with pd.lists.b := [] }
     (∀ e ∈ u.list .A, sideOf e.spindle = .A) ∧ (u.carriage .A).state = .idle ∧ u.pd.globalHold = false ∧
     (∃ e ∈ u.list .A, e.status = .waiting ∧ e.passedOver = false) ∧
     (after (exec (.loadRecipe req [{ field := 1, value := 74 }]) u)).si.gate = .opened) := by decide +kernel

theorem witness_StationOrdersGoThroughThePassTableToTheMailbox :
    let h : ReqFrame := { req with raw := [99#8, 0x18#8, 0#8] }
    let s := { running with
      pd.carriages := { a := Carriage.initial, b := Carriage.initial }
      df.state := .halted
      lc.stations := running.lc.stations.map
        (fun (e : Station) => if e.address = 99 then { e with mailbox := some { kind := 24, payload := [], number := 0 } } else e) }
    taken s h ∧ h.raw = BitVec.ofNat 8 99 :: BitVec.ofNat 8 0x18 :: BitVec.ofNat 8 0 :: [] ∧
    (s.station 99).mailbox.isSome = true ∧ (running.station 99).mailbox = none ∧ s.events.length = 16 ∧
    (∃ e ∈ s.lc.stations, e.address = 99) ∧
    (s.ml.passTable.getD 0x18 closedEntry).doffer = .whenOut ∧ s.df.state = .halted ∧
    (s.ml.passTable.getD 0x10 closedEntry).doffer = .deny ∧ req.raw.length < 3 ∧ taken running req ∧
    req.short = false := by decide +kernel

theorem witness_MasksAndClearsActByClass :
    let masks := List.replicate 15 true ++ [false]
    let s := { running with events := running.events.set 4 { EventClass.clear with flag := true, mask := false } }
    taken s req ∧ req.short = false ∧ masks.length = 16 ∧ s.events.length = 16 ∧ 15 < s.events.length ∧
    masks[4]? = some true ∧ masks[15]? = some false ∧ (s.event 4).mask = false ∧ (s.event 4).flag = true ∧
    (s.event 4).given = false ∧ s.ml.ownSeq < 65536 ∧ ([] : List Bool).length < 16 ∧
    (let full := { s with ml.own := List.replicate 15 { dest := 0, src := 250, seq := 0, body := .reply 1 .done .empty } }
     taken full req ∧ 16 - (full.answered req 0x06 .done .empty).ml.own.length = 0 ∧ full.ml.ownSeq < 65536 ∧
     full.events.length = 16) := by decide +kernel

/-! ### A state in which every law holds, with a piece under way and a segment in the roving request queue -/

/-- The frame with spindle 5 SERVICING, segment 1 in the roving request queue, and a command waiting. -/
def lawful : State :=
  { servicing with
    rm.queue := [1]
    rm.forecasts := State.reset.rm.forecasts.set 0 (some 5)
    pending := [.runClockTick] }

theorem lawful_spindle (n : Nat) (h₁ : 1 ≤ n) (h₂ : n ≤ 1920) :
    lawful.spindle n =
      if n = 5 then { down 1700000 .assigned with state := .servicing }
      else if n ≤ 24 then Spindle.fresh 0 else Spindle.vacant := by
  obtain ⟨m, rfl⟩ : ∃ m, n = m + 1 := ⟨n - 1, by omega⟩
  have : lawful.spindles = (List.replicate 24 (Spindle.fresh 0) ++ List.replicate 1896 Spindle.vacant).set 4
      { down 1700000 .assigned with state := .servicing } := rfl
  simp only [State.spindle, this, List.getD_eq_getElem?_getD, List.getElem?_set, List.getElem?_append,
    List.getElem?_replicate, List.length_append, List.length_replicate]
  by_cases h5 : m = 4
  · subst h5; simp
  · by_cases h24 : m < 24
    · simp [h24, show ¬ m + 1 = 5 by omega, show ¬ 4 = m by omega, show m + 1 ≤ 24 by omega]
    · simp [h24, show ¬ m + 1 = 5 by omega, show ¬ 4 = m by omega, show ¬ m + 1 ≤ 24 by omega,
        show m - 24 < 1896 by omega]

theorem lawful_mem (p : Spindle) (h : p ∈ lawful.spindles) :
    p = { down 1700000 .assigned with state := .servicing } ∨ p = Spindle.fresh 0 ∨ p = Spindle.vacant := by
  have : lawful.spindles = (List.replicate 24 (Spindle.fresh 0) ++ List.replicate 1896 Spindle.vacant).set 4
      { down 1700000 .assigned with state := .servicing } := rfl
  rw [this] at h
  rcases List.mem_or_eq_of_mem_set h with h | h
  · rcases List.mem_append.1 h with h | h
    · exact .inr (.inl (List.eq_of_mem_replicate h))
    · exact .inr (.inr (List.eq_of_mem_replicate h))
  · exact .inl h

theorem lawful_slots : (lawful.carriage .A).slotAgrees ∧ (lawful.carriage .B).slotAgrees := ⟨.inl ⟨rfl, rfl⟩, trivial⟩

theorem lawful_list : lawful.list .A = [{ waiting 5 59000 with status := .assigned, carriage := some .A }] ∧
    lawful.list .B = [] := ⟨rfl, rfl⟩

theorem lawful_listed (n : Nat) (h₁ : 1 ≤ n) : lawful.listed n = decide (n = 5) := by
  unfold State.listed State.entry? sideOf
  by_cases h5 : n = 5
  · subst h5; rfl
  · split
    · rw [lawful_list.1]; simp [waiting, h5, show ¬ 5 = n by omega]
    · rw [lawful_list.2]; simp [h5]

theorem witness_MarksLaw_and_LossLaw : MarksLaw lawful ∧ LossLaw lawful ∧ ∃ t, step lawful = .next t := by
  refine ⟨⟨by decide, by decide, by decide, ?_⟩, ?_, step_next lawful⟩
  · intro p hp
    rcases lawful_mem p hp with rfl | rfl | rfl <;> decide
  · intro p hp
    rcases lawful_mem p hp with rfl | rfl | rfl <;> decide

theorem witness_DoffLaw : DoffLaw lawful ∧ DoffLaw (parked .doffing) ∧ (parked .doffing).df.state = .doffing := by
  refine ⟨⟨lawful_slots.1, lawful_slots.2, by decide⟩, ⟨?_, ?_, by decide⟩, rfl⟩ <;> exact trivial

theorem witness_ListLaw : ListLaw lawful := by
  refine ⟨by decide +kernel, lawful_slots.1, lawful_slots.2, by decide, by decide, ?_, ?_, ?_⟩
  · intro e he
    obtain rfl : e = { waiting 5 59000 with status := .assigned, carriage := some .A } := by simpa [lawful_list.1] using he
    exact ⟨by decide, by decide, by decide, by decide, by decide⟩
  · intro e he
    simp [lawful_list.2] at he
  · intro n hn
    obtain ⟨m, hm, rfl⟩ := List.mem_map.1 hn
    have hm := List.mem_range.1 hm
    have hs := lawful_spindle (m + 1) (by omega) (by omega)
    have hl := lawful_listed (m + 1) (by omega)
    have hf : lawful.fitted (segmentOf (m + 1)) = decide (m + 1 ≤ 24) := by
      have ha : lawful.ps.inForce.segmentsA = 1 := rfl
      have hb : lawful.ps.inForce.segmentsB = 0 := rfl
      unfold State.fitted fittedIn segmentOf
      rw [ha, hb]
      by_cases h : m + 1 ≤ 24
      · simp [h]; omega
      · simp [h]; omega
    unfold State.recordAgrees
    rw [hs, hl, hf]
    by_cases h5 : m + 1 = 5
    · rw [if_pos h5]; simp [h5, down, SpindleState.isDown]
    · rw [if_neg h5]
      by_cases h24 : m + 1 ≤ 24
      · simp [h5, h24, Spindle.fresh, SpindleState.isDown, Spindle.vacant]
      · simp [h5, h24, SpindleState.isDown, Spindle.vacant]

theorem witness_RoomLaw : RoomLaw lawful := by
  have h : ∀ n, 1 ≤ n → n ≤ 1920 → waitsOutside (lawful.spindle n) = false := by
    intro n h₁ h₂
    rw [lawful_spindle n h₁ h₂]
    split_ifs <;> rfl
  intro side _ n hn
  cases side <;> obtain ⟨m, hm, rfl⟩ := List.mem_map.1 hn <;> have hm := List.mem_range.1 hm <;> exact h _ (by omega) (by omega)

theorem witness_BufferLaw : BufferLaw lawful := by
  unfold BufferLaw
  decide +kernel

theorem witness_RovingLaw : RovingLaw lawful ∧ 1 ∈ lawful.rm.queue :=
  ⟨⟨by decide, List.pairwise_singleton _ _⟩, by decide⟩

theorem witness_FramesAndMessagesReadBackAsSent :
    frame.wf = true ∧ 0xC3#8 ∉ [0x00#8, 0xA5#8] ∧ 0xA5#8 ∉ [0xC3#8] ∧
    (0 < 256 ∧ 255 < 256 ∧ (List.replicate 64 0x11#8).length ≤ 64) := by decide +kernel

end Sys2Proof.Tests
end

section
/-! SUPPORT. What dispatch leaves of one spindle: the entry, the record and the carriage after a removal, a cancelled piece,
admission and selection. -/

namespace Sys2Proof.Machine

/-! ### The entry of a spindle -/

theorem listed_iff (s : State) (n : Nat) : s.listed n = true ↔ ∃ e ∈ s.list (sideOf n), e.spindle = n := by
  simp [State.listed, State.entry?]

theorem not_listed_iff (s : State) (n : Nat) : s.listed n = false ↔ ∀ e ∈ s.list (sideOf n), ¬ e.spindle = n := by
  rw [← Bool.not_eq_true, listed_iff]; push Not; rfl

theorem entry?_congr {s t : State} {n : Nat} (h : t.list (sideOf n) = s.list (sideOf n)) : t.entry? n = s.entry? n := by
  unfold State.entry?; rw [h]

theorem listed_congr {s t : State} {n : Nat} (h : t.list (sideOf n) = s.list (sideOf n)) : t.listed n = s.listed n := by
  unfold State.listed; rw [entry?_congr h]

/-- A change of entries that keeps what spindle each is of keeps who is listed. -/
theorem listed_congr_map {s t : State} {n : Nat} (f : Entry → Entry) (hf : ∀ e, (f e).spindle = e.spindle)
    (h : t.list (sideOf n) = (s.list (sideOf n)).map f) : t.listed n = s.listed n := by
  rw [Bool.eq_iff_iff, listed_iff, listed_iff, h]
  simp [hf]

@[simp] theorem entry?_modSpindle (m n : Nat) (f : Spindle → Spindle) (s : State) :
    (modSpindle m f s).entry? n = s.entry? n := entry?_congr (by simp)

@[simp] theorem listed_modSpindle (m n : Nat) (f : Spindle → Spindle) (s : State) :
    (modSpindle m f s).listed n = s.listed n := listed_congr (by simp)

@[simp] theorem listed_setListStatus (m n : Nat) (x : ListStatus) (s : State) :
    (setListStatus m x s).listed n = s.listed n := listed_modSpindle ..

@[simp] theorem listed_modCarriage (side : Side) (n : Nat) (f : Carriage → Carriage) (s : State) :
    (modCarriage side f s).listed n = s.listed n := rfl

@[simp] theorem listed_raiseEvent (id : EventId) (d n : Nat) (s : State) : (raiseEvent id d s).listed n = s.listed n :=
  listed_congr (by simp)

@[simp] theorem listed_modEntry (m n : Nat) (f : Entry → Entry) (hf : ∀ e, (f e).spindle = e.spindle) (s : State) :
    (modEntry m f s).listed n = s.listed n := by
  by_cases hs : sideOf n = sideOf m
  · refine listed_congr_map (fun e => if e.spindle = m then f e else e) (fun e => ?_) (by rw [list_modEntry, if_pos hs])
    split <;> simp [hf]
  · exact listed_congr (by rw [list_modEntry, if_neg hs])

@[simp] theorem entry?_modCounters (f : ShiftCounters → ShiftCounters) (n : Nat) (s : State) :
    (modCounters f s).entry? n = s.entry? n := rfl

@[simp] theorem listed_modCounters (f : ShiftCounters → ShiftCounters) (n : Nat) (s : State) :
    (modCounters f s).listed n = s.listed n := rfl

@[simp] theorem carriage_modCounters (f : ShiftCounters → ShiftCounters) (x : Side) (s : State) :
    (modCounters f s).carriage x = s.carriage x := rfl

/-- Dropping one spindle's entry leaves every other spindle's. -/
theorem entry?_dropEntry_other {m n : Nat} (h : ¬ n = m) (s : State) : (dropEntry m s).entry? n = s.entry? n := by
  unfold State.entry?
  rw [list_dropEntry]
  split
  · rw [List.find?_filter]
    congr 1
    funext e
    by_cases he : e.spindle = n <;> simp [he, h]
  · rfl

/-! ### Leaving dispatch -/

@[simp] theorem carriage_leaveDispatch (n : Nat) (x : Side) (s : State) : (leaveDispatch n s).carriage x = s.carriage x := by
  simp [leaveDispatch]

@[simp] theorem listed_leaveDispatch (n : Nat) (s : State) : (leaveDispatch n s).listed n = false := by
  simp [leaveDispatch]

theorem entry?_leaveDispatch_other {m n : Nat} (h : ¬ n = m) (s : State) : (leaveDispatch m s).entry? n = s.entry? n := by
  simp [leaveDispatch, entry?_dropEntry_other h]

theorem spindle_leaveDispatch_self (n : Nat) (s : State) (h1 : 1 ≤ n) (h2 : n ≤ s.spindles.length) :
    (leaveDispatch n s).spindle n =
      { s.spindle n with
        held := (s.spindle n).held || (s.entry? n).any (fun e => e.holdPending), listStatus := .none } := by
  unfold leaveDispatch
  exact spindle_modSpindle_self _ _ _ h1 h2

theorem spindle_leaveDispatch_other {m n : Nat} (h : ¬ n = m) (s : State) : (leaveDispatch m s).spindle n = s.spindle n := by
  unfold leaveDispatch
  rw [spindle_modSpindle_other _ _ _ _ h, spindle_dropEntry]

@[simp] theorem leaveDispatch_spindles_length (n : Nat) (s : State) :
    (leaveDispatch n s).spindles.length = s.spindles.length := by simp [leaveDispatch]

/-! ### A cancelled piece -/

/-- A piece's cancelling is a CANCEL placed in the carriage's slot, where the slot holds a PIECE for the spindle (R96). -/
theorem cancelPiece_cases (n : Nat) (s : State) :
    (cancelPiece n s = s ∧ ∀ p, ¬ (s.carriage (sideOf n)).slot.map (fun o => o.kind) = some (.piece n p)) ∨
    (cancelPiece n s = placeOrder (sideOf n) .cancel s ∧
      ∃ p, (s.carriage (sideOf n)).slot.map (fun o => o.kind) = some (.piece n p)) := by
  unfold cancelPiece
  split
  · next m p number collected h =>
    rw [h]
    split
    · next hm => subst hm; exact .inr ⟨rfl, _, rfl⟩
    · next hm =>
      refine .inl ⟨rfl, fun q hq => hm ?_⟩
      cases hq; rfl
  · next h =>
    refine .inl ⟨rfl, fun p hp => ?_⟩
    obtain ⟨o, ho, hk⟩ := Option.map_eq_some_iff.mp hp
    obtain ⟨kind, number, collected⟩ := o
    cases hk
    exact h _ _ _ _ ho

@[simp] theorem spindle_cancelPiece (m n : Nat) (s : State) : (cancelPiece m s).spindle n = s.spindle n := by
  obtain ⟨h, -⟩ | ⟨h, -⟩ := cancelPiece_cases m s <;> rw [h]
  rfl

@[simp] theorem list_placeOrder (side x : Side) (k : OrderKind) (s : State) : (placeOrder side k s).list x = s.list x := rfl

@[simp] theorem list_cancelPiece (m : Nat) (x : Side) (s : State) : (cancelPiece m s).list x = s.list x := by
  obtain ⟨h, -⟩ | ⟨h, -⟩ := cancelPiece_cases m s <;> rw [h]
  rfl

@[simp] theorem listed_cancelPiece (m n : Nat) (s : State) : (cancelPiece m s).listed n = s.listed n :=
  listed_congr (by simp)

@[simp] theorem entry?_cancelPiece (m n : Nat) (s : State) : (cancelPiece m s).entry? n = s.entry? n :=
  entry?_congr (by simp)

/-- The carriage that services a spindle has a PIECE for it in its slot, and the spindle is SERVICING (R92). -/
theorem servicedBy_eq_some {s : State} {side : Side} {n : Nat} : s.servicedBy side = some n ↔
    (∃ p, (s.carriage side).slot.map (fun o => o.kind) = some (.piece n p)) ∧ (s.spindle n).state = .servicing := by
  unfold State.servicedBy
  split
  · next m p number collected h =>
    rw [h]
    constructor
    · intro hs
      split at hs
      · next hm => cases hs; exact ⟨⟨p, rfl⟩, hm⟩
      · cases hs
    · rintro ⟨⟨q, hq⟩, hs⟩
      cases hq
      rw [if_pos hs]
  · next h =>
    constructor
    · intro hs; cases hs
    · rintro ⟨⟨p, hp⟩, -⟩
      obtain ⟨⟨kind, number, collected⟩, ho, hk⟩ := Option.map_eq_some_iff.mp hp
      cases hk
      exact absurd ho (h _ _ _ _)

/-- A cancelled PIECE leaves its carriage WORKING on the CANCEL (R96). -/
theorem carriage_cancelPiece_of_piece {n p : Nat} {s : State}
    (h : (s.carriage (sideOf n)).slot.map (fun o => o.kind) = some (.piece n p)) :
    ((cancelPiece n s).carriage (sideOf n)).state = .working ∧
    ((cancelPiece n s).carriage (sideOf n)).slot =
      some { kind := .cancel, number := (s.carriage (sideOf n)).nextNumber, collected := false } := by
  obtain ⟨-, hno⟩ | ⟨he, -⟩ := cancelPiece_cases n s
  · exact absurd h (hno p)
  · rw [he, placeOrder, carriage_modCarriage_self]; exact ⟨rfl, rfl⟩

/-- A carriage whose slot holds a PIECE for another spindle is left as it is. -/
theorem carriage_cancelPiece_of_other {m n p : Nat} {side : Side} {s : State} (hmn : ¬ m = n)
    (h : (s.carriage side).slot.map (fun o => o.kind) = some (.piece n p)) :
    (cancelPiece m s).carriage side = s.carriage side := by
  obtain ⟨he, -⟩ | ⟨he, q, hq⟩ := cancelPiece_cases m s
  · rw [he]
  · rw [he, placeOrder, carriage_modCarriage, if_neg]
    rintro rfl
    rw [h] at hq
    cases hq
    exact hmn rfl

/-- A carriage whose slot holds a CANCEL is left as it is. -/
theorem carriage_cancelPiece_of_cancel {m : Nat} {side : Side} {s : State}
    (h : (s.carriage side).slot.map (fun o => o.kind) = some .cancel) :
    (cancelPiece m s).carriage side = s.carriage side := by
  obtain ⟨he, -⟩ | ⟨he, q, hq⟩ := cancelPiece_cases m s
  · rw [he]
  · rw [he, placeOrder, carriage_modCarriage, if_neg]
    rintro rfl
    rw [h] at hq
    cases hq

/-! ### Admission -/

/-- Admission keeps what every single admission keeps. -/
theorem admission_keeps {P : State → Prop} {side : Side}
    (h : ∀ t n, P t → oldestOutside side t = some n → P (admitOne n t)) (s : State) (hs : P s) : P (admission side s) := by
  suffices key : ∀ (fuel : Nat) (t : State), P t → P (admitLoop fuel side t) from key 48 s hs
  intro fuel
  induction fuel with
  | zero => exact fun _ ht => ht
  | succ fuel ih =>
    intro t ht
    unfold admitLoop
    split
    · split
      · next n hn => exact ih _ (h t n ht hn)
      · exact ht
    · exact ht

@[simp] theorem carriage_admitOne (n : Nat) (x : Side) (s : State) : (admitOne n s).carriage x = s.carriage x := by
  simp [admitOne]

theorem spindle_admitOne_self (n : Nat) (s : State) (h1 : 1 ≤ n) (h2 : n ≤ s.spindles.length) :
    (admitOne n s).spindle n = { s.spindle n with listStatus := .waiting } := by
  exact spindle_modSpindle_self n _ (setList _ _ s) h1 h2

theorem spindle_admitOne_other {m n : Nat} (h : ¬ n = m) (s : State) : (admitOne m s).spindle n = s.spindle n := by
  unfold admitOne setListStatus
  rw [spindle_modSpindle_other _ _ _ _ h]; rfl

theorem listed_admitOne_other {m n : Nat} (h : ¬ n = m) (s : State) : (admitOne m s).listed n = s.listed n := by
  rw [Bool.eq_iff_iff, listed_iff, listed_iff, list_admitOne]
  split
  · simp [Ne.symm h]
  · rfl

theorem listed_admitOne_self (n : Nat) (s : State) : (admitOne n s).listed n = true := by
  rw [listed_iff, list_admitOne, if_pos rfl]
  simp

@[simp] theorem carriage_admission (side x : Side) (s : State) : (admission side s).carriage x = s.carriage x :=
  admission_keeps (P := fun t => t.carriage x = s.carriage x) (fun t n ht _ => by rw [carriage_admitOne, ht]) s rfl

/-- A spindle that does not wait outside its list is not admitted: its record and its place stand. -/
theorem admission_leaves {n : Nat} (side : Side) {s : State} (h : waitsOutside (s.spindle n) = false) :
    (admission side s).spindle n = s.spindle n ∧ (admission side s).listed n = s.listed n := by
  refine admission_keeps (P := fun t => t.spindle n = s.spindle n ∧ t.listed n = s.listed n) ?_ s ⟨rfl, rfl⟩
  rintro t m ⟨hsp, hl⟩ hm
  have hne : ¬ n = m := by
    rintro rfl
    have := (oldestOutside_some hm).2
    rw [hsp, h] at this
    cases this
  rw [spindle_admitOne_other hne, listed_admitOne_other hne]
  exact ⟨hsp, hl⟩

/-! ### Selection -/

/-- Selection keeps what a reversal of the sweep and the giving of a WAITING entry to an IDLE carriage keep. -/
theorem selectFor_keeps {P : State → Prop} {side : Side}
    (hturn : ∀ t, P t → P (modCarriage side (fun c => { c with direction := c.direction.reverse }) t))
    (hgive : ∀ t, ∀ e ∈ t.list side, P t → (t.carriage side).state = .idle → e.status = .waiting →
      P (assignPiece side e.spindle t)) (s : State) (hs : P s) : P (selectFor side s) := by
  obtain h | ⟨hd, h⟩ := selectFor_cases side s
  · rwa [h]
  · have hidle : (s.carriage side).state = .idle := by
      simp only [dispatchable, Bool.and_eq_true, beq_iff_eq] at hd
      exact hd.1.2
    obtain h | ⟨e, he, hw, h | h⟩ := h <;> rw [h]
    · exact hturn s hs
    · exact hgive s e he hs hidle hw
    · exact hgive _ e he (hturn s hs) (by simpa using hidle) hw

theorem spindle_assignPiece (side : Side) (m n : Nat) (s : State) :
    (assignPiece side m s).spindle n =
      if n = m ∧ 1 ≤ m ∧ m ≤ s.spindles.length then
        { s.spindle n with state := .servicing, listStatus := .assigned } else s.spindle n := by
  unfold assignPiece
  simp only [spindle_placeOrder, spindle_modCarriage]
  rw [spindle_modSpindle]
  rfl

@[simp] theorem listed_assignPiece (side : Side) (m n : Nat) (s : State) : (assignPiece side m s).listed n = s.listed n := by
  have h : (assignPiece side m s).listed n =
      (modSpindle m (fun q => { q with state := .servicing, listStatus := .assigned })
        (modEntry m (fun e => { e with status := .assigned, carriage := some side }) s)).listed n := rfl
  rw [h, listed_modSpindle]
  apply listed_modEntry
  exact fun _ => rfl

@[simp] theorem listed_selectFor (side : Side) (n : Nat) (s : State) : (selectFor side s).listed n = s.listed n :=
  selectFor_keeps (P := fun t => t.listed n = s.listed n) (fun t ht => by simpa using ht)
    (fun t e _ ht _ _ => by rw [listed_assignPiece, ht]) s rfl

@[simp] theorem pieced_selectFor (side x : Side) (s : State) :
    ((selectFor side s).carriage x).pieced = (s.carriage x).pieced := by
  refine selectFor_keeps (P := fun t => (t.carriage x).pieced = (s.carriage x).pieced) (fun t ht => ?_)
    (fun t e _ ht _ _ => ?_) s rfl
  · rw [carriage_modCarriage]; split <;> exact ht
  · simp only [assignPiece, placeOrder, carriage_modCarriage]
    split <;> simpa using ht

/-- A spindle without an entry is given to no carriage of its side. -/
theorem spindle_selectFor_of_not_listed {n : Nat} {s : State} (h : s.listed n = false) :
    (selectFor (sideOf n) s).spindle n = s.spindle n := by
  refine (selectFor_keeps (P := fun t => t.spindle n = s.spindle n ∧ t.listed n = false) (fun t ht => ht)
    (fun t e he ht _ _ => ?_) s ⟨rfl, h⟩).1
  have hne : ¬ n = e.spindle := fun hn => (not_listed_iff t n).mp ht.2 e he hn.symm
  rw [spindle_assignPiece, if_neg (fun x => hne x.1), listed_assignPiece]
  exact ht

/-- A carriage that is not IDLE is given nothing. -/
theorem selectFor_of_not_idle {side : Side} {s : State} (h : ¬ (s.carriage side).state = .idle) : selectFor side s = s :=
  selectFor_not_dispatchable side s (by simp [dispatchable, h])

/-! ### What follows a removal -/

/-- What follows a removal leaves a spindle of the side that has no entry and does not wait outside as it is. -/
theorem afterRemoval_leaves {n : Nat} {b : Bool} {s : State} (hl : s.listed n = false)
    (hw : waitsOutside (s.spindle n) = false) :
    (afterRemoval b (sideOf n) s).spindle n = s.spindle n ∧ (afterRemoval b (sideOf n) s).listed n = false := by
  unfold afterRemoval
  split
  · obtain ⟨hsp, hli⟩ := admission_leaves (sideOf n) hw
    rw [spindle_selectFor_of_not_listed (hli.trans hl), listed_selectFor]
    exact ⟨hsp, hli.trans hl⟩
  · exact ⟨rfl, hl⟩

@[simp] theorem pieced_afterRemoval (b : Bool) (side x : Side) (s : State) :
    ((afterRemoval b side s).carriage x).pieced = (s.carriage x).pieced := by
  unfold afterRemoval; split <;> simp

/-- What follows a removal leaves a carriage that is not IDLE as it is. -/
theorem carriage_afterRemoval_of_not_idle {b : Bool} {side : Side} {s : State} (h : ¬ (s.carriage side).state = .idle) :
    (afterRemoval b side s).carriage side = s.carriage side := by
  unfold afterRemoval
  split
  · rw [selectFor_of_not_idle (by simpa using h), carriage_admission]
  · rfl

/-- A PIECE called off stays called off through what follows the removal. -/
theorem afterRemoval_keeps_cancel {b : Bool} {side : Side} {s : State} {o : Option CarriageOrder}
    (h : (s.carriage side).state = .working ∧ (s.carriage side).slot = o) :
    ((afterRemoval b side s).carriage side).state = .working ∧ ((afterRemoval b side s).carriage side).slot = o := by
  rw [carriage_afterRemoval_of_not_idle (by rw [h.1]; decide)]
  exact h

end Sys2Proof.Machine
end

section
/-! SUPPORT. The list law spindle by spindle: what it does not see, what it says but for one spindle, and what it says of that
one. -/

namespace Sys2Proof.Machine

/-! ### Changes that the list law does not see -/

/-- Two records alike in what the list law reads; a hold may be gone. -/
def Spindle.listQuiet (p q : Spindle) : Prop :=
  q.state = p.state ∧ q.listStatus = p.listStatus ∧ q.breakMark = p.breakMark ∧ (q.held = true → p.held = true)

/-- Two entries alike in what the list law reads. -/
def Entry.listQuiet (e g : Entry) : Prop :=
  g.spindle = e.spindle ∧ g.status = e.status ∧ g.carriage = e.carriage ∧
  (e.status = .verifying → e.window.isSome = true → g.window.isSome = true)

/-- A change that the list law does not see: it touches no geometry, no place in dispatch, no break mark and no carriage's state or
slot. -/
structure ListQuiet (s t : State) : Prop where
  geometry : t.ps.inForce = s.ps.inForce
  size : t.spindles.length = s.spindles.length
  spindle : ∀ n, (s.spindle n).listQuiet (t.spindle n)
  carriage : ∀ side, (t.carriage side).state = (s.carriage side).state ∧ (t.carriage side).slot = (s.carriage side).slot
  list : ∀ side, ∃ f : Entry → Entry, t.list side = (s.list side).map f ∧ ∀ e, Entry.listQuiet e (f e)

theorem Spindle.listQuiet_refl (p : Spindle) : p.listQuiet p := ⟨rfl, rfl, rfl, id⟩

theorem Entry.listQuiet_refl (e : Entry) : e.listQuiet e := ⟨rfl, rfl, rfl, fun _ => id⟩

/-- A change that leaves the geometry, the spindle table and the dispatcher as they are. -/
theorem ListQuiet.of_eq {s t : State} (hg : t.ps.inForce = s.ps.inForce) (hs : t.spindles = s.spindles) (hp : t.pd = s.pd) :
    ListQuiet s t where
  geometry := hg
  size := by rw [hs]
  spindle n := by unfold State.spindle; rw [hs]; exact Spindle.listQuiet_refl _
  carriage side := by unfold State.carriage; rw [hp]; exact ⟨rfl, rfl⟩
  list side := ⟨id, by unfold State.list; rw [hp, List.map_id], Entry.listQuiet_refl⟩

theorem ListQuiet.refl (s : State) : ListQuiet s s := .of_eq rfl rfl rfl

theorem ListQuiet.trans {s t u : State} (h₁ : ListQuiet s t) (h₂ : ListQuiet t u) : ListQuiet s u where
  geometry := h₂.geometry.trans h₁.geometry
  size := h₂.size.trans h₁.size
  spindle n := by
    obtain ⟨a₁, b₁, c₁, d₁⟩ := h₁.spindle n
    obtain ⟨a₂, b₂, c₂, d₂⟩ := h₂.spindle n
    exact ⟨a₂.trans a₁, b₂.trans b₁, c₂.trans c₁, d₁ ∘ d₂⟩
  carriage side := ⟨(h₂.carriage side).1.trans (h₁.carriage side).1, (h₂.carriage side).2.trans (h₁.carriage side).2⟩
  list side := by
    obtain ⟨f, hf, qf⟩ := h₁.list side
    obtain ⟨g, hg, qg⟩ := h₂.list side
    refine ⟨g ∘ f, by rw [hg, hf, List.map_map], fun e => ?_⟩
    obtain ⟨a₁, b₁, c₁, d₁⟩ := qf e
    obtain ⟨a₂, b₂, c₂, d₂⟩ := qg (f e)
    exact ⟨a₂.trans a₁, b₂.trans b₁, c₂.trans c₁, fun hv hw => d₂ (b₁.trans hv) (d₁ hv hw)⟩

theorem ListQuiet.modSpindle {n : Nat} {f : Spindle → Spindle} {s : State} (hf : ∀ p, Spindle.listQuiet p (f p)) :
    ListQuiet s (modSpindle n f s) where
  geometry := by simp
  size := by simp
  spindle m := by
    rw [spindle_modSpindle]
    split
    · exact hf _
    · exact Spindle.listQuiet_refl _
  carriage side := by simp
  list side := ⟨id, by simp, Entry.listQuiet_refl⟩

theorem ListQuiet.modAllSpindles {f : Spindle → Spindle} {s : State} (hf : ∀ p, Spindle.listQuiet p (f p)) :
    ListQuiet s (modAllSpindles f s) where
  geometry := rfl
  size := by simp [Machine.modAllSpindles]
  spindle n := by
    unfold State.spindle Machine.modAllSpindles
    split
    · exact Spindle.listQuiet_refl _
    · simp only [List.getD_eq_getElem?_getD, List.getElem?_map]
      cases s.spindles[n - 1]?
      · exact Spindle.listQuiet_refl _
      · exact hf _
  carriage _ := ⟨rfl, rfl⟩
  list _ := ⟨id, by rw [List.map_id]; rfl, Entry.listQuiet_refl⟩

theorem ListQuiet.modCarriage {side : Side} {f : Carriage → Carriage} {s : State}
    (hf : (f (s.carriage side)).state = (s.carriage side).state ∧ (f (s.carriage side)).slot = (s.carriage side).slot) :
    ListQuiet s (modCarriage side f s) where
  geometry := rfl
  size := rfl
  spindle _ := Spindle.listQuiet_refl _
  carriage x := by
    rw [carriage_modCarriage]
    split
    · next h => subst h; exact hf
    · exact ⟨rfl, rfl⟩
  list _ := ⟨id, by simp, Entry.listQuiet_refl⟩

theorem ListQuiet.setList_map {side : Side} {f : Entry → Entry} {s : State} (hf : ∀ e, Entry.listQuiet e (f e)) :
    ListQuiet s (setList side ((s.list side).map f) s) where
  geometry := rfl
  size := rfl
  spindle _ := Spindle.listQuiet_refl _
  carriage _ := ⟨rfl, rfl⟩
  list x := by
    rw [list_setList]
    split
    · next h => subst h; exact ⟨f, rfl, hf⟩
    · exact ⟨id, by simp, Entry.listQuiet_refl⟩

theorem ListQuiet.modEntry {n : Nat} {f : Entry → Entry} {s : State} (hf : ∀ e, Entry.listQuiet e (f e)) :
    ListQuiet s (modEntry n f s) := by
  refine ListQuiet.setList_map (fun e => ?_)
  split
  · exact hf e
  · exact Entry.listQuiet_refl e

theorem ListQuiet.modAllEntries {f : Entry → Entry} {s : State} (hf : ∀ e, Entry.listQuiet e (f e)) :
    ListQuiet s (modAllEntries f s) where
  geometry := rfl
  size := rfl
  spindle _ := Spindle.listQuiet_refl _
  carriage _ := ⟨rfl, rfl⟩
  list side := ⟨f, by cases side <;> rfl, hf⟩

theorem ListQuiet.raiseEvent (id : EventId) (d : Nat) (s : State) : ListQuiet s (raiseEvent id d s) :=
  .of_eq (by simp) (by simp) (by simp)

/-- A fold of changes that the law does not see is one. -/
theorem ListQuiet.foldl {α : Type} {g : State → α → State} (hg : ∀ t a, ListQuiet t (g t a)) (l : List α) (s : State) :
    ListQuiet s (l.foldl g s) :=
  List.foldlRecOn (motive := fun t => ListQuiet s t) l g (ListQuiet.refl s) (fun t ht a _ => ht.trans (hg t a))

theorem ListQuiet.fitted {s t : State} (h : ListQuiet s t) (k : Nat) : t.fitted k = s.fitted k := by
  unfold State.fitted; rw [h.geometry]

theorem ListQuiet.listed {s t : State} (h : ListQuiet s t) (n : Nat) : t.listed n = s.listed n := by
  obtain ⟨f, hf, qf⟩ := h.list (sideOf n)
  exact listed_congr_map f (fun e => (qf e).1) hf

theorem ListQuiet.servicedBy {s t : State} (h : ListQuiet s t) {side : Side} {n : Nat} :
    t.servicedBy side = some n ↔ s.servicedBy side = some n := by
  rw [servicedBy_eq_some, servicedBy_eq_some, (h.carriage side).2, (h.spindle n).1]

theorem ListQuiet.slotAgrees {s t : State} (h : ListQuiet s t) (side : Side) (hs : (s.carriage side).slotAgrees) :
    (t.carriage side).slotAgrees := by
  unfold Carriage.slotAgrees at *
  rwa [(h.carriage side).1, (h.carriage side).2]

theorem ListQuiet.entryAgrees {s t : State} (h : ListQuiet s t) {side : Side} {e g : Entry} (q : e.listQuiet g)
    (he : s.entryAgrees side e) : t.entryAgrees side g := by
  obtain ⟨qn, qs, qc, qw⟩ := q
  obtain ⟨h₁, h₂, hside, hheld, hst⟩ := he
  obtain ⟨pst, pl, -, ph⟩ := h.spindle e.spindle
  unfold State.entryAgrees
  rw [qn, qs, qc]
  refine ⟨h₁, h₂, hside, ?_, ?_⟩
  · exact Bool.eq_false_iff.mpr (fun hh => Bool.eq_false_iff.mp hheld (ph hh))
  · rw [pst, pl]
    cases hes : e.status <;> rw [hes] at hst
    · exact hst
    · exact ⟨hst.1, hst.2.1, hst.2.2.1, h.servicedBy.mpr hst.2.2.2⟩
    · exact ⟨hst.1, hst.2.1, hst.2.2.1, qw hes hst.2.2.2⟩

theorem ListQuiet.recordAgrees {s t : State} (h : ListQuiet s t) {n : Nat} (hr : s.recordAgrees n) : t.recordAgrees n := by
  obtain ⟨pst, pl, pb, -⟩ := h.spindle n
  unfold State.recordAgrees at *
  rwa [pst, pl, pb, h.fitted, h.listed]

/-! ### The law but for one spindle -/

/-- The list law but for what it says of spindle `n`: every entry stands in the list of its side. -/
structure ListLawBut (n : Nat) (s : State) : Prop where
  size : s.spindles.length = 1920
  slots : ∀ side, (s.carriage side).slotAgrees
  nodup : ∀ side, ((s.list side).map (fun e => e.spindle)).Nodup
  sides : ∀ side, ∀ e ∈ s.list side, sideOf e.spindle = side
  entries : ∀ side, ∀ e ∈ s.list side, ¬ e.spindle = n → s.entryAgrees side e
  records : ∀ m ∈ allSpindles, ¬ m = n → s.recordAgrees m

theorem mem_allSpindles {n : Nat} : n ∈ allSpindles ↔ 1 ≤ n ∧ n ≤ 1920 := by
  simp only [allSpindles, List.mem_map, List.mem_range]
  constructor
  · rintro ⟨i, hi, rfl⟩; omega
  · rintro ⟨h₁, h₂⟩; exact ⟨n - 1, by omega, by omega⟩

theorem ListLaw.slots {s : State} (h : ListLaw s) (side : Side) : (s.carriage side).slotAgrees := by
  obtain ⟨-, hA, hB, -⟩ := h
  cases side <;> assumption

theorem ListLaw.nodup {s : State} (h : ListLaw s) (side : Side) : ((s.list side).map (fun e => e.spindle)).Nodup := by
  obtain ⟨-, -, -, hA, hB, -⟩ := h
  cases side <;> assumption

theorem ListLaw.entries {s : State} (h : ListLaw s) (side : Side) : ∀ e ∈ s.list side, s.entryAgrees side e := by
  obtain ⟨-, -, -, -, -, hA, hB, -⟩ := h
  cases side <;> assumption

theorem ListLaw.records {s : State} (h : ListLaw s) : ∀ n ∈ allSpindles, s.recordAgrees n := h.2.2.2.2.2.2.2

theorem ListLaw.of_sides {s : State} (hsize : s.spindles.length = 1920) (hslots : ∀ side, (s.carriage side).slotAgrees)
    (hnodup : ∀ side, ((s.list side).map (fun e => e.spindle)).Nodup)
    (hentries : ∀ side, ∀ e ∈ s.list side, s.entryAgrees side e) (hrecords : ∀ n ∈ allSpindles, s.recordAgrees n) :
    ListLaw s :=
  ⟨hsize, hslots .A, hslots .B, hnodup .A, hnodup .B, hentries .A, hentries .B, hrecords⟩

theorem ListLaw.but {s : State} (h : ListLaw s) (n : Nat) : ListLawBut n s where
  size := h.1
  slots := h.slots
  nodup := h.nodup
  sides side e he := (h.entries side e he).2.2.1
  entries side e he _ := h.entries side e he
  records m hm _ := h.records m hm

/-- A change that the law does not see keeps it. -/
theorem ListLaw.quiet {s t : State} (h : ListLaw s) (q : ListQuiet s t) : ListLaw t := by
  refine ListLaw.of_sides (q.size.trans h.1) (fun side => q.slotAgrees side (h.slots side)) (fun side => ?_)
    (fun side e he => ?_) (fun n hn => q.recordAgrees (h.records n hn))
  · obtain ⟨f, hf, qf⟩ := q.list side
    rw [hf, List.map_map]
    have : (fun e : Entry => e.spindle) ∘ f = fun e => e.spindle := funext fun e => (qf e).1
    rw [this]
    exact h.nodup side
  · obtain ⟨f, hf, qf⟩ := q.list side
    rw [hf] at he
    obtain ⟨g, hg, rfl⟩ := List.mem_map.mp he
    exact q.entryAgrees (qf g) (h.entries side g hg)

/-! ### Changes of the one spindle -/

/-- Two states that agree but for spindle `n`: everything the law says of the others stands. -/
theorem ListLawBut.of_others {n : Nat} {s t : State} (h : ListLawBut n s) (hg : t.ps.inForce = s.ps.inForce)
    (hsize : t.spindles.length = s.spindles.length) (hslots : ∀ side, (t.carriage side).slotAgrees)
    (hserv : ∀ side m, ¬ m = n → s.servicedBy side = some m → t.servicedBy side = some m)
    (hsp : ∀ m, ¬ m = n → t.spindle m = s.spindle m)
    (hnodup : ∀ side, ((t.list side).map (fun e => e.spindle)).Nodup)
    (hlist : ∀ side e, ¬ e.spindle = n → (e ∈ t.list side ↔ e ∈ s.list side))
    (hsides : ∀ side, ∀ e ∈ t.list side, e.spindle = n → sideOf n = side) : ListLawBut n t where
  size := hsize.trans h.size
  slots := hslots
  nodup := hnodup
  sides side e he := by
    by_cases hn : e.spindle = n
    · rw [hn]; exact hsides side e he hn
    · exact h.sides side e ((hlist side e hn).mp he)
  entries side e he hn := by
    obtain ⟨h₁, h₂, hside, hheld, hst⟩ := h.entries side e ((hlist side e hn).mp he) hn
    unfold State.entryAgrees
    rw [hsp _ hn]
    refine ⟨h₁, h₂, hside, hheld, ?_⟩
    cases hes : e.status <;> rw [hes] at hst
    · exact hst
    · exact ⟨hst.1, hst.2.1, hst.2.2.1, hserv side _ hn hst.2.2.2⟩
    · exact hst
  records m hm hn := by
    have hl : t.listed m = s.listed m := by
      rw [Bool.eq_iff_iff, listed_iff, listed_iff]
      constructor <;> rintro ⟨e, he, rfl⟩
      · exact ⟨e, (hlist _ e hn).mp he, rfl⟩
      · exact ⟨e, (hlist _ e hn).mpr he, rfl⟩
    have hf : t.fitted (segmentOf m) = s.fitted (segmentOf m) := by unfold State.fitted; rw [hg]
    have := h.records m hm hn
    unfold State.recordAgrees at *
    rwa [hsp m hn, hl, hf]

theorem ListLawBut.modSpindle {n : Nat} {s : State} (h : ListLawBut n s) (f : Spindle → Spindle) :
    ListLawBut n (modSpindle n f s) := by
  refine h.of_others (by simp) (by simp) (by simpa using h.slots) (fun side m hm hs => ?_)
    (fun m hm => spindle_modSpindle_other _ _ _ _ hm) (by simpa using h.nodup) (by simp)
    (fun side e he hn => hn ▸ h.sides side e (by simpa using he))
  rw [servicedBy_eq_some] at hs ⊢
  rwa [spindle_modSpindle_other _ _ _ _ hm, carriage_modSpindle]

/-- A change of the lists that keeps every other spindle's entries. -/
theorem ListLawBut.of_lists {n : Nat} {s : State} (h : ListLawBut n s) (l : List Entry)
    (hnodup : (l.map (fun e => e.spindle)).Nodup)
    (hl : ∀ e, ¬ e.spindle = n → (e ∈ l ↔ e ∈ s.list (sideOf n))) : ListLawBut n (setList (sideOf n) l s) := by
  refine h.of_others rfl rfl h.slots (fun _ _ _ hs => hs) (fun _ _ => rfl) (fun side => ?_) (fun side e hn => ?_)
    (fun side e he hn => ?_)
  · rw [list_setList]; split
    · exact hnodup
    · exact h.nodup side
  · rw [list_setList]; split
    · next hs => subst hs; exact hl e hn
    · rfl
  · rw [list_setList] at he; split at he
    · next hs => exact hs.symm
    · rw [← hn]; exact h.sides side e he

theorem ListLawBut.modEntry {n : Nat} {s : State} (h : ListLawBut n s) {f : Entry → Entry}
    (hf : ∀ e, (f e).spindle = e.spindle) : ListLawBut n (modEntry n f s) := by
  refine h.of_lists _ ?_ (fun e hn => ?_)
  · rw [List.map_map]
    have : (fun e : Entry => e.spindle) ∘ (fun e => if e.spindle = n then f e else e) = fun e => e.spindle := by
      funext e; simp only [Function.comp_apply]; split <;> simp [hf]
    rw [this]
    exact h.nodup _
  · rw [List.mem_map]
    constructor
    · rintro ⟨g, hg, rfl⟩
      split at hn
      · next hgn => exact absurd ((hf g).trans hgn) hn
      · next hgn => rwa [if_neg hgn]
    · exact fun he => ⟨e, he, if_neg hn⟩

theorem ListLawBut.dropEntry {n : Nat} {s : State} (h : ListLawBut n s) : ListLawBut n (dropEntry n s) := by
  refine h.of_lists _ ((h.nodup _).sublist (List.filter_sublist.map _)) (fun e hn => ?_)
  simp [List.mem_filter, hn]

/-- A spindle without an entry gets one at the tail. -/
theorem ListLawBut.appendEntry {n : Nat} {s : State} (h : ListLawBut n s) (hl : s.listed n = false) {e : Entry}
    (he : e.spindle = n) : ListLawBut n (setList (sideOf n) (s.list (sideOf n) ++ [e]) s) := by
  refine h.of_lists _ ?_ (fun g hg => ?_)
  · rw [List.map_append, List.nodup_append]
    refine ⟨h.nodup _, by simp, fun a ha b hb => ?_⟩
    obtain ⟨g, hg, rfl⟩ := List.mem_map.mp ha
    obtain rfl : b = n := by simpa [he] using hb
    exact (not_listed_iff s _).mp hl g hg
  · have : ¬ g = e := fun x => hg (x ▸ he)
    simp [this]

/-- A carriage may change while its state agrees with its slot and a PIECE for another spindle that it serves stays. -/
theorem ListLawBut.modCarriage {n : Nat} {s : State} (h : ListLawBut n s) (side : Side) {f : Carriage → Carriage}
    (hf : (f (s.carriage side)).slotAgrees)
    (hkeep : ∀ m, ¬ m = n → s.servicedBy side = some m →
      ∃ p, (f (s.carriage side)).slot.map (fun o => o.kind) = some (.piece m p)) :
    ListLawBut n (modCarriage side f s) := by
  refine h.of_others rfl rfl (fun x => ?_) (fun x m hm hs => ?_) (fun _ _ => rfl) h.nodup (fun _ _ _ => Iff.rfl)
    (fun x e he hn => hn ▸ h.sides x e he)
  · rw [carriage_modCarriage]; split
    · next hx => subst hx; exact hf
    · exact h.slots x
  · rw [servicedBy_eq_some, carriage_modCarriage]
    refine ⟨?_, (servicedBy_eq_some.mp hs).2⟩
    split
    · next hx => subst hx; exact hkeep m hm hs
    · exact (servicedBy_eq_some.mp hs).1

theorem ListLawBut.quiet {n : Nat} {s t : State} (h : ListLawBut n s) (q : ListQuiet s t) : ListLawBut n t where
  size := q.size.trans h.size
  slots side := q.slotAgrees side (h.slots side)
  nodup side := by
    obtain ⟨f, hf, qf⟩ := q.list side
    have : (fun e : Entry => e.spindle) ∘ f = fun e => e.spindle := funext fun e => (qf e).1
    rw [hf, List.map_map, this]
    exact h.nodup side
  sides side e he := by
    obtain ⟨f, hf, qf⟩ := q.list side
    rw [hf] at he
    obtain ⟨g, hg, rfl⟩ := List.mem_map.mp he
    rw [(qf g).1]
    exact h.sides side g hg
  entries side e he hn := by
    obtain ⟨f, hf, qf⟩ := q.list side
    rw [hf] at he
    obtain ⟨g, hg, rfl⟩ := List.mem_map.mp he
    exact q.entryAgrees (qf g) (h.entries side g hg (by rwa [← (qf g).1]))
  records m hm hn := q.recordAgrees (h.records m hm hn)

theorem placeOrder_slotAgrees (c : Carriage) (k : OrderKind) (number : Nat) (x : Timer) :
    Carriage.slotAgrees
      { c with slot := some { kind := k, number := c.nextNumber, collected := false }, nextNumber := number,
               state := k.placedState, timer := x } := by
  cases k
  · exact ⟨rfl, rfl⟩
  · exact .inr rfl
  · rfl

theorem ListLawBut.placeOrder {n : Nat} {s : State} (h : ListLawBut n s) (side : Side) (k : OrderKind)
    (hfree : ∀ m, ¬ m = n → ¬ s.servicedBy side = some m) : ListLawBut n (placeOrder side k s) :=
  h.modCarriage side (placeOrder_slotAgrees _ k _ _) (fun m hm hs => absurd hs (hfree m hm))

theorem ListLawBut.leaveDispatch {n : Nat} {s : State} (h : ListLawBut n s) : ListLawBut n (leaveDispatch n s) :=
  h.dropEntry.modSpindle _

/-! ### The law of the one spindle -/

/-- The law holds where it holds but for `n`, and for the entries and the record of `n`. -/
theorem ListLawBut.close {n : Nat} {s : State} (h : ListLawBut n s)
    (he : ∀ e ∈ s.list (sideOf n), e.spindle = n → s.entryAgrees (sideOf n) e) (hr : n ∈ allSpindles → s.recordAgrees n) :
    ListLaw s := by
  refine ListLaw.of_sides h.size h.slots h.nodup (fun side e hm => ?_) (fun m hm => ?_)
  · by_cases hn : e.spindle = n
    · obtain rfl : sideOf n = side := hn ▸ h.sides side e hm
      exact he e hm hn
    · exact h.entries side e hm hn
  · by_cases hn : m = n
    · subst hn; exact hr hm
    · exact h.records m hm hn

/-- A spindle of the geometry, without an entry, in none of the states that dispatch knows. -/
theorem ListLawBut.close_away {n : Nat} {s : State} (h : ListLawBut n s) (hl : s.listed n = false)
    (hv : (s.spindle n).state = .vacant ↔ s.fitted (segmentOf n) = false)
    (hst : ¬ (s.spindle n).state = .down ∧ ¬ (s.spindle n).state = .servicing ∧ ¬ (s.spindle n).state = .verifying)
    (hb : (s.spindle n).state.isDown = (s.spindle n).breakMark.isSome) (hs : (s.spindle n).listStatus = .none) : ListLaw s := by
  refine h.close (fun e he hn => absurd hn ((not_listed_iff s n).mp hl e he)) (fun _ => ?_)
  obtain ⟨hd, hsv, hvf⟩ := hst
  unfold State.recordAgrees
  simp [hl, hs, hd, hsv, hvf, hb, hv]

/-- A DOWN spindle of the geometry, UNLISTED and without an entry. -/
theorem ListLawBut.close_unlisted {n : Nat} {s : State} (h : ListLawBut n s) (hl : s.listed n = false)
    (hf : s.fitted (segmentOf n) = true) (hst : (s.spindle n).state = .down)
    (hb : (s.spindle n).breakMark.isSome = true) (hs : (s.spindle n).listStatus = .unlisted) : ListLaw s := by
  refine h.close (fun e he hn => absurd hn ((not_listed_iff s n).mp hl e he)) (fun _ => ?_)
  unfold State.recordAgrees
  simp [hl, hs, hst, hb, hf, SpindleState.isDown]

/-- A spindle of the geometry whose entries agree with its record. -/
theorem ListLawBut.close_listed {n : Nat} {s : State} (h : ListLawBut n s) (hl : s.listed n = true)
    (hf : s.fitted (segmentOf n) = true)
    (he : ∀ e ∈ s.list (sideOf n), e.spindle = n → s.entryAgrees (sideOf n) e)
    (hb : (s.spindle n).breakMark.isSome = true) : ListLaw s := by
  refine h.close he (fun _ => ?_)
  obtain ⟨e, hm, rfl⟩ := (listed_iff s n).mp hl
  obtain ⟨-, -, -, -, hst⟩ := he e hm rfl
  unfold State.recordAgrees
  cases hes : e.status <;> rw [hes] at hst <;> obtain ⟨hst, hs, -⟩ := hst <;>
    simp [hl, hs, hst, hb, hf, SpindleState.isDown]

/-! ### What the law says of a spindle by its state -/

section
variable {s : State} {n : Nat}

theorem ListLaw.of_counted (h : ListLaw s) (hv : ¬ (s.spindle n).state = .vacant) :
    n ∈ allSpindles ∧ 1 ≤ n ∧ n ≤ s.spindles.length ∧ s.fitted (segmentOf n) = true := by
  obtain ⟨h₁, h₂⟩ := spindle_in_table s n hv
  have hm : n ∈ allSpindles := mem_allSpindles.mpr ⟨h₁, h.1 ▸ h₂⟩
  refine ⟨hm, h₁, h₂, ?_⟩
  by_contra hf
  exact hv ((h.records n hm).1.mpr (by simpa using hf))

/-- An entry's spindle is DOWN, SERVICING or VERIFYING, by the entry's status. -/
theorem ListLaw.entry_state (h : ListLaw s) {side : Side} {e : Entry} (he : e ∈ s.list side) :
    (s.spindle e.spindle).state = match e.status with
      | .waiting => .down
      | .assigned => .servicing
      | .verifying => .verifying := by
  obtain ⟨-, -, -, -, hst⟩ := h.entries side e he
  cases hes : e.status <;> rw [hes] at hst <;> exact hst.1

theorem ListLaw.not_listed (h : ListLaw s)
    (hst : ¬ (s.spindle n).state = .down ∧ ¬ (s.spindle n).state = .servicing ∧ ¬ (s.spindle n).state = .verifying) :
    s.listed n = false := by
  rw [not_listed_iff]
  rintro e he rfl
  have := h.entry_state he
  obtain ⟨hd, hs, hv⟩ := hst
  cases hes : e.status <;> rw [hes] at this
  · exact hd this
  · exact hs this
  · exact hv this

theorem ListLaw.breakMark (h : ListLaw s) (hd : (s.spindle n).state.isDown = true) :
    (s.spindle n).breakMark.isSome = true := by
  have hv : ¬ (s.spindle n).state = .vacant := fun hv => by rw [hv] at hd; cases hd
  rw [← (h.records n (h.of_counted hv).1).2.1, hd]

/-- A SERVICING or VERIFYING spindle has an entry of that status. -/
theorem ListLaw.entry_of_state (h : ListLaw s)
    (hst : (s.spindle n).state = .servicing ∨ (s.spindle n).state = .verifying) :
    ∃ e ∈ s.list (sideOf n), e.spindle = n ∧ s.entryAgrees (sideOf n) e := by
  have hv : ¬ (s.spindle n).state = .vacant := by rintro hv; rw [hv] at hst; simp at hst
  have hl := (h.records n (h.of_counted hv).1).2.2.1 hst
  obtain ⟨e, he, hn⟩ := (listed_iff s n).mp hl
  exact ⟨e, he, hn, h.entries _ e he⟩

theorem ListLaw.held (h : ListLaw s) (hl : s.listed n = true) : (s.spindle n).held = false := by
  obtain ⟨e, he, rfl⟩ := (listed_iff s n).mp hl
  exact (h.entries _ e he).2.2.2.1

/-- A carriage that is not ASSIGNED or WORKING serves no spindle. -/
theorem Carriage.slotAgrees.slot_none {c : Carriage} (h : c.slotAgrees) (hst : c.state = .idle ∨ c.state = .parked ∨ c.state = .out) :
    c.slot = none := by
  unfold Carriage.slotAgrees at h
  rcases hst with hst | hst | hst <;> rw [hst] at h <;> cases hs : c.slot <;> simp [hs] at h ⊢

theorem servicedBy_of_slot_none {side : Side} (h : (s.carriage side).slot = none) (m : Nat) : ¬ s.servicedBy side = some m := by
  rw [servicedBy_eq_some, h]
  simp

end

end Sys2Proof.Machine
end

section
/-! SUPPORT. Dispatch keeps the list law: admission, selection, the carriage orders, attempts, removal and the carriages' ways
out, in and home (4.1 to 4.5, chapter 5). -/

namespace Sys2Proof.Machine

/-! ### Carriage orders -/

/-- Two changes of one carriage are one change. -/
theorem modCarriage_modCarriage (side : Side) (f g : Carriage → Carriage) (s : State) :
    modCarriage side g (modCarriage side f s) = modCarriage side (fun c => g (f c)) s := by
  cases side <;> rfl

/-- A carriage may change while its state agrees with its slot and a PIECE for a spindle that it serves stays. -/
theorem ListLaw.modCarriage {s : State} (h : ListLaw s) (side : Side) {f : Carriage → Carriage}
    (hf : (f (s.carriage side)).slotAgrees)
    (hkeep : ∀ m, s.servicedBy side = some m →
      ∃ p, (f (s.carriage side)).slot.map (fun o => o.kind) = some (.piece m p)) : ListLaw (modCarriage side f s) := by
  have hzero : ¬ (0 : Nat) ∈ allSpindles := by simp [mem_allSpindles]
  refine ((h.but 0).modCarriage side hf (fun m _ => hkeep m)).close (fun e he hn => ?_) (fun h0 => absurd h0 hzero)
  have := (h.entries _ e he).1
  omega

theorem ListLaw.placeOrder {s : State} (h : ListLaw s) (side : Side) (k : OrderKind)
    (hfree : ∀ m, ¬ s.servicedBy side = some m) : ListLaw (placeOrder side k s) :=
  h.modCarriage side (placeOrder_slotAgrees _ k _ _) (fun m hm => absurd hm (hfree m))

/-- A carriage whose slot empties is IDLE, PARKED or OUT. -/
theorem ListLaw.emptyCarriage {s : State} (h : ListLaw s) (side : Side) {f : Carriage → Carriage}
    (hslot : (f (s.carriage side)).slot = none)
    (hst : (f (s.carriage side)).state = .idle ∨ (f (s.carriage side)).state = .parked ∨ (f (s.carriage side)).state = .out)
    (hfree : ∀ m, ¬ s.servicedBy side = some m) : ListLaw (Machine.modCarriage side f s) := by
  refine h.modCarriage side ?_ (fun m hm => absurd hm (hfree m))
  unfold Carriage.slotAgrees
  rw [hslot]
  rcases hst with hst | hst | hst <;> rw [hst] <;> trivial

/-- A PIECE called off for a spindle that is no longer SERVICING. -/
theorem ListLaw.cancelPiece {s : State} (h : ListLaw s) {n : Nat} (hn : ¬ (s.spindle n).state = .servicing) :
    ListLaw (cancelPiece n s) := by
  obtain ⟨he, -⟩ | ⟨he, p, hp⟩ := cancelPiece_cases n s <;> rw [he]
  · exact h
  · refine h.placeOrder _ _ (fun m hm => ?_)
    obtain ⟨⟨q, hq⟩, hs⟩ := servicedBy_eq_some.mp hm
    rw [hp] at hq
    cases hq
    exact hn hs

/-! ### An entry rewritten in its place -/

theorem mem_list_modEntry {n : Nat} {f : Entry → Entry} {s : State} {e : Entry}
    (he : e ∈ (modEntry n f s).list (sideOf n)) (hn : e.spindle = n) : ∃ g ∈ s.list (sideOf n), g.spindle = n ∧ e = f g := by
  rw [list_modEntry, if_pos rfl] at he
  obtain ⟨g, hg, rfl⟩ := List.mem_map.mp he
  split at hn
  · next hgn => exact ⟨g, hg, hgn, if_pos hgn⟩
  · next hgn => exact absurd hn hgn

/-- The entry and the record of a listed spindle rewritten together, to WAITING or to VERIFYING. -/
theorem ListLaw.rewriteEntry {s : State} (h : ListLaw s) {n : Nat} (hl : s.listed n = true) (f : Spindle → Spindle)
    (g : Entry → Entry) (hg : ∀ e, (g e).spindle = e.spindle) (hheld : ∀ p, (f p).held = p.held)
    (hmark : ∀ p, (f p).breakMark = p.breakMark)
    (hst : ∀ e p,
      ((g e).status = .waiting ∧ (f p).state = .down ∧ (f p).listStatus = .waiting ∧ (g e).carriage = none) ∨
      ((g e).status = .verifying ∧ (f p).state = .verifying ∧ (f p).listStatus = .verifying ∧ (g e).carriage = none ∧
        (g e).window.isSome = true)) :
    ListLaw (Machine.modEntry n g (Machine.modSpindle n f s)) := by
  obtain ⟨e₀, he₀, rfl⟩ := (listed_iff s n).mp hl
  have hv : ¬ (s.spindle e₀.spindle).state = .vacant := by
    rw [h.entry_state he₀]; cases e₀.status <;> simp
  obtain ⟨-, h₁, h₂, hf⟩ := h.of_counted hv
  have hb : (s.spindle e₀.spindle).breakMark.isSome = true := by
    refine h.breakMark ?_
    rw [h.entry_state he₀]; cases e₀.status <;> rfl
  have hsp := spindle_modSpindle_self e₀.spindle f s h₁ h₂
  refine (((h.but e₀.spindle).modSpindle f).modEntry hg).close_listed ?_ ?_ (fun e he hn => ?_) ?_
  · rw [listed_modEntry _ _ _ hg, listed_modSpindle, hl]
  · rw [← hf]; simp [State.fitted]
  · obtain ⟨g₀, hg₀, hgn, rfl⟩ := mem_list_modEntry he hn
    rw [list_modSpindle] at hg₀
    obtain ⟨hn₁, hn₂, hside, hhold, -⟩ := h.entries _ g₀ hg₀
    unfold State.entryAgrees
    rw [hg, hgn, spindle_modEntry, hsp, hheld]
    rw [hgn] at hn₁ hn₂ hhold
    refine ⟨hn₁, hn₂, rfl, hhold, ?_⟩
    obtain ⟨hs, hrest⟩ | ⟨hs, hrest⟩ := hst g₀ (s.spindle e₀.spindle) <;> rw [hs] <;> exact hrest
  · rw [spindle_modEntry, hsp, hmark, hb]

/-- A piece taken back (R71). -/
theorem ListLaw.returnToWaiting {s : State} (h : ListLaw s) {n : Nat} (hl : s.listed n = true) :
    ListLaw (returnToWaiting n s) :=
  h.rewriteEntry hl _ _ (fun _ => rfl) (fun _ => rfl) (fun _ => rfl) (fun _ _ => .inl ⟨rfl, rfl, rfl, rfl⟩)

theorem ListLaw.startVerifying {s : State} (h : ListLaw s) {n : Nat} (hl : s.listed n = true) :
    ListLaw (startVerifying n s) := by
  unfold Machine.startVerifying
  exact h.rewriteEntry hl _ _ (fun _ => rfl) (fun _ => rfl) (fun _ => rfl) (fun _ _ => .inr ⟨rfl, rfl, rfl, rfl, rfl⟩)

/-- The spindle that a carriage serves has an entry. -/
theorem ListLaw.listed_of_servicedBy {s : State} (h : ListLaw s) {side : Side} {n : Nat} (hs : s.servicedBy side = some n) :
    s.listed n = true := by
  obtain ⟨e, he, hn, -⟩ := h.entry_of_state (.inl (servicedBy_eq_some.mp hs).2)
  exact (listed_iff s n).mpr ⟨e, he, hn⟩

theorem ListLaw.takeBackPiece {s : State} (h : ListLaw s) (side : Side) : ListLaw (takeBackPiece side s) := by
  unfold Machine.takeBackPiece
  split
  · next n hn => exact h.returnToWaiting (h.listed_of_servicedBy hn)
  · exact h

@[simp] theorem carriage_takeBackPiece (side x : Side) (s : State) : (takeBackPiece side s).carriage x = s.carriage x := by
  unfold takeBackPiece
  split
  · simp [returnToWaiting]
  · rfl

/-- A carriage whose spindle has left SERVICING serves none. -/
theorem free_of_not_servicing {s t : State} {side : Side} {n : Nat} (hs : s.servicedBy side = some n)
    (hc : t.carriage side = s.carriage side) (hn : ¬ (t.spindle n).state = .servicing) (m : Nat) :
    ¬ t.servicedBy side = some m := by
  rw [servicedBy_eq_some, hc]
  rintro ⟨⟨p, hp⟩, hm⟩
  obtain ⟨⟨q, hq⟩, -⟩ := servicedBy_eq_some.mp hs
  rw [hp] at hq
  cases hq
  exact hn hm

/-- A carriage whose PIECE is taken back serves no spindle. -/
theorem takeBackPiece_frees (side : Side) (s : State) (m : Nat) : ¬ (takeBackPiece side s).servicedBy side = some m := by
  cases hs : s.servicedBy side with
  | none => simp [takeBackPiece, hs]
  | some n =>
    refine free_of_not_servicing hs (by simp) ?_ m
    have hn := (servicedBy_eq_some.mp hs).2
    obtain ⟨h₁, h₂⟩ := spindle_in_table s n (by simp [hn])
    simp [takeBackPiece, hs, returnToWaiting, spindle_modSpindle_self _ _ _ h₁ h₂]

/-! ### Admission -/

/-- A DOWN spindle without an entry, not held, joins its list. -/
theorem ListLawBut.admitOne {n : Nat} {s : State} (h : ListLawBut n s) (hn : n ∈ allSpindles)
    (hf : s.fitted (segmentOf n) = true) (hl : s.listed n = false) (hst : (s.spindle n).state = .down)
    (hb : (s.spindle n).breakMark.isSome = true) (hheld : (s.spindle n).held = false) : ListLaw (admitOne n s) := by
  obtain ⟨h₁, h₂⟩ := mem_allSpindles.mp hn
  have hsp := spindle_admitOne_self n s h₁ (h.size ▸ h₂)
  have hbut : ListLawBut n (Machine.admitOne n s) := (h.appendEntry hl rfl).modSpindle _
  refine hbut.close_listed (listed_admitOne_self n s) ?_ (fun e he hen => ?_) (by rw [hsp]; exact hb)
  · rw [← hf]; simp [State.fitted, Machine.admitOne]
  · rw [list_admitOne, if_pos rfl, List.mem_append] at he
    obtain he | he := he
    · exact absurd hen ((not_listed_iff s n).mp hl e he)
    · obtain rfl := List.mem_singleton.mp he
      unfold State.entryAgrees
      simp only [hsp]
      exact ⟨h₁, h₂, trivial, hheld, hst, trivial, trivial⟩

theorem ListLaw.admission {s : State} (h : ListLaw s) (side : Side) : ListLaw (admission side s) := by
  refine admission_keeps (fun t n ht hn => ?_) s h
  obtain ⟨-, hw⟩ := oldestOutside_some hn
  simp only [waitsOutside, Bool.and_eq_true, beq_iff_eq, Bool.not_eq_true'] at hw
  obtain ⟨⟨hst, hls⟩, hheld⟩ := hw
  have hc := ht.of_counted (n := n) (by simp [hst])
  have hl := ((ht.records n hc.1).2.2.2.1.mp hls).2
  exact (ht.but n).admitOne hc.1 hc.2.2.2 hl hst (ht.breakMark (by rw [hst]; rfl)) hheld

/-- A DOWN spindle without an entry becomes UNLISTED. -/
theorem ListLawBut.unlist {n : Nat} {s : State} (h : ListLawBut n s) (hn : n ∈ allSpindles)
    (hf : s.fitted (segmentOf n) = true) (hl : s.listed n = false) (hst : (s.spindle n).state = .down)
    (hb : (s.spindle n).breakMark.isSome = true) : ListLaw (setListStatus n .unlisted s) := by
  obtain ⟨h₁, h₂⟩ := mem_allSpindles.mp hn
  have hsp : (setListStatus n .unlisted s).spindle n = { s.spindle n with listStatus := .unlisted } :=
    spindle_modSpindle_self n _ s h₁ (h.size ▸ h₂)
  have hbut : ListLawBut n (setListStatus n .unlisted s) := h.modSpindle _
  refine hbut.close_unlisted (by simpa using hl) ?_ (by rw [hsp]; exact hst) (by rw [hsp]; exact hb) (by rw [hsp])
  rw [← hf]; simp [State.fitted]

/-- A spindle that has entered DOWN and has no entry is handed for admission (R68). -/
theorem ListLawBut.handForAdmission {n : Nat} {s : State} (h : ListLawBut n s) (hn : n ∈ allSpindles)
    (hf : s.fitted (segmentOf n) = true) (hl : s.listed n = false) (hst : (s.spindle n).state = .down)
    (hb : (s.spindle n).breakMark.isSome = true) : ListLaw (handForAdmission n s) := by
  have hu := h.unlist hn hf hl hst hb
  unfold Machine.handForAdmission
  simp only
  split
  · exact hu
  · next hheld =>
    split
    · exact h.admitOne hn hf hl hst hb (by simpa using hheld)
    · split
      · exact hu
      · exact hu.quiet (ListQuiet.raiseEvent _ _ _)

/-! ### Selection -/

theorem ListLaw.assignPiece {s : State} (h : ListLaw s) {side : Side} {e : Entry} (he : e ∈ s.list side)
    (hidle : (s.carriage side).state = .idle) (hw : e.status = .waiting) : ListLaw (assignPiece side e.spindle s) := by
  obtain rfl : sideOf e.spindle = side := (h.entries side e he).2.2.1
  have hst : (s.spindle e.spindle).state = .down := by rw [h.entry_state he, hw]
  obtain ⟨-, h₁, h₂, hf⟩ := h.of_counted (n := e.spindle) (by simp [hst])
  have hslot : (s.carriage (sideOf e.spindle)).slot = none := (h.slots _).slot_none (.inl hidle)
  have hl : s.listed e.spindle = true := (listed_iff s _).mpr ⟨e, he, rfl⟩
  generalize e.spindle = n at *
  have hsp : (Machine.assignPiece (sideOf n) n s).spindle n =
      { s.spindle n with state := .servicing, listStatus := .assigned } := by
    rw [spindle_assignPiece, if_pos ⟨rfl, h₁, h₂⟩]
  have hbut : ListLawBut n (Machine.assignPiece (sideOf n) n s) := by
    have hgiven := ((h.but n).modEntry (f := fun e => { e with status := .assigned, carriage := some (sideOf n) })
      (fun _ => rfl)).modSpindle (fun q => { q with state := .servicing, listStatus := .assigned })
    have hturned := hgiven.quiet (ListQuiet.modCarriage (side := sideOf n)
      (f := fun c => { c with direction := c.direction.toward c.position (positionOf n) }) ⟨rfl, rfl⟩)
    exact hturned.placeOrder (sideOf n) (.piece n (positionOf n))
      (fun m _ => servicedBy_of_slot_none (by simpa using hslot) m)
  have hfit : (Machine.assignPiece (sideOf n) n s).fitted (segmentOf n) = true := by
    rw [← hf]; simp [State.fitted, Machine.assignPiece]
  have hlist : (Machine.assignPiece (sideOf n) n s).list (sideOf n) =
      (modEntry n (fun e => { e with status := .assigned, carriage := some (sideOf n) }) s).list (sideOf n) := by
    simp [Machine.assignPiece]
  have hserv : (Machine.assignPiece (sideOf n) n s).servicedBy (sideOf n) = some n :=
    servicedBy_eq_some.mpr ⟨⟨positionOf n, by simp [Machine.assignPiece, Machine.placeOrder]⟩, by rw [hsp]⟩
  rw [← listed_assignPiece (sideOf n) n] at hl
  have hb := h.breakMark (n := n) (by rw [hst]; rfl)
  generalize Machine.assignPiece (sideOf n) n s = t at *
  refine hbut.close_listed hl hfit (fun g hg hgn => ?_) (by rw [hsp]; exact hb)
  rw [hlist] at hg
  obtain ⟨g₀, hg₀, hn, rfl⟩ := mem_list_modEntry hg hgn
  obtain ⟨hn₁, hn₂, -, hheld, -⟩ := h.entries _ g₀ hg₀
  rw [hn] at hn₁ hn₂ hheld
  unfold State.entryAgrees
  simp only [hn, hsp]
  exact ⟨hn₁, hn₂, trivial, hheld, trivial, trivial, trivial, hserv⟩

theorem ListLaw.selectFor {s : State} (h : ListLaw s) (side : Side) : ListLaw (selectFor side s) :=
  selectFor_keeps (fun _ ht => ht.quiet (ListQuiet.modCarriage ⟨rfl, rfl⟩))
    (fun _ _ he ht hidle hw => ht.assignPiece he hidle hw) s h

theorem ListLaw.selectBoth {s : State} (h : ListLaw s) : ListLaw (selectBoth s) := (h.selectFor .A).selectFor .B

theorem ListLaw.admitThenSelect {s : State} (h : ListLaw s) (side : Side) : ListLaw (admitThenSelect side s) := by
  unfold Machine.admitThenSelect
  simp only
  split
  · exact (h.admission side).selectFor side
  · exact h.admission side

theorem ListLaw.afterRemoval {s : State} (h : ListLaw s) (b : Bool) (side : Side) : ListLaw (afterRemoval b side s) := by
  unfold Machine.afterRemoval
  split
  · exact (h.admission side).selectFor side
  · exact h

theorem ListLawBut.admitAndSelect {n : Nat} {s : State} (h : ListLawBut n s) (hn : n ∈ allSpindles)
    (hf : s.fitted (segmentOf n) = true) (hl : s.listed n = false) (hst : (s.spindle n).state = .down)
    (hb : (s.spindle n).breakMark.isSome = true) : ListLaw (admitAndSelect n s) := by
  have ha := h.handForAdmission hn hf hl hst hb
  unfold Machine.admitAndSelect
  simp only
  split
  · exact ha.selectFor _
  · exact ha

/-! ### Removal -/

/-- A spindle leaves dispatch for a state that dispatch does not know. -/
theorem ListLawBut.leaves {n : Nat} {s : State} (h : ListLawBut n s) (hn : n ∈ allSpindles)
    (hf : s.fitted (segmentOf n) = true)
    (hst : (s.spindle n).state = .spinning ∨ (s.spindle n).state = .starved ∨ (s.spindle n).state = .rogue ∨
      (s.spindle n).state = .offline)
    (hb : (s.spindle n).state.isDown = (s.spindle n).breakMark.isSome) : ListLaw (Machine.leaveDispatch n s) := by
  obtain ⟨h₁, h₂⟩ := mem_allSpindles.mp hn
  have hsp := spindle_leaveDispatch_self n s h₁ (h.size ▸ h₂)
  have hfit : (Machine.leaveDispatch n s).fitted (segmentOf n) = true := by
    rw [← hf]; simp [State.fitted, Machine.leaveDispatch]
  refine h.leaveDispatch.close_away (listed_leaveDispatch n s) ?_ ?_ (by rw [hsp]; exact hb) (by rw [hsp])
  · rw [hsp, hfit]
    rcases hst with hst | hst | hst | hst <;> simp [hst]
  · rw [hsp]
    rcases hst with hst | hst | hst | hst <;> simp [hst]

/-- A spindle leaves dispatch and stays DOWN: it is UNLISTED. -/
theorem ListLawBut.leaves_down {n : Nat} {s : State} (h : ListLawBut n s) (hn : n ∈ allSpindles)
    (hf : s.fitted (segmentOf n) = true) (hst : (s.spindle n).state = .down)
    (hb : (s.spindle n).breakMark.isSome = true) : ListLaw (setListStatus n .unlisted (Machine.leaveDispatch n s)) := by
  obtain ⟨h₁, h₂⟩ := mem_allSpindles.mp hn
  have hsp := spindle_leaveDispatch_self n s h₁ (h.size ▸ h₂)
  refine h.leaveDispatch.unlist hn ?_ (listed_leaveDispatch n s) (by rw [hsp]; exact hst) (by rw [hsp]; exact hb)
  rw [← hf]; simp [State.fitted, Machine.leaveDispatch]

/-! ### Attempts -/

theorem modSpindle_fitted (n : Nat) (f : Spindle → Spindle) (s : State) (k : Nat) :
    (modSpindle n f s).fitted k = s.fitted k := by simp [State.fitted]

/-- A failed attempt on a spindle that is SERVICING or VERIFYING (R85). -/
theorem ListLaw.failedAttempt {s : State} (h : ListLaw s) {n : Nat}
    (hst : (s.spindle n).state = .servicing ∨ (s.spindle n).state = .verifying) : ListLaw (failedAttempt n s) := by
  have hv : ¬ (s.spindle n).state = .vacant := by rcases hst with hst | hst <;> simp [hst]
  obtain ⟨hn, h₁, h₂, hf⟩ := h.of_counted hv
  have hb : (s.spindle n).breakMark.isSome = true := h.breakMark (by rcases hst with hst | hst <;> rw [hst] <;> rfl)
  obtain ⟨e, he, hen, -⟩ := h.entry_of_state hst
  have hl : s.listed n = true := (listed_iff s n).mpr ⟨e, he, hen⟩
  let s₁ := modCounters (fun c => { c with failed := satAdd top32 c.failed 1 })
    (Machine.modSpindle n (fun p => { p with attempts := p.attempts + 1 }) s)
  have q : ListQuiet s s₁ :=
    (ListQuiet.modSpindle (f := fun p => { p with attempts := p.attempts + 1 }) (fun _ => ⟨rfl, rfl, rfl, id⟩)).trans
      (.of_eq rfl rfl rfl)
  have hs₁ : ListLaw s₁ := h.quiet q
  have h₂' : n ≤ s₁.spindles.length := q.size ▸ h₂
  have hb₁ : (s₁.spindle n).breakMark.isSome = true := by rw [(q.spindle n).2.2.1, hb]
  have hf₁ : s₁.fitted (segmentOf n) = true := by rw [q.fitted, hf]
  unfold Machine.failedAttempt
  simp only
  split
  · refine ListLaw.admission (ListLaw.quiet (ListLawBut.leaves ((hs₁.but n).modSpindle _) hn ?_ ?_ ?_)
      (ListQuiet.raiseEvent _ _ _)) _
    · rw [modSpindle_fitted, hf₁]
    · rw [spindle_modSpindle_self _ _ _ h₁ h₂']; exact .inr (.inr (.inl rfl))
    · rw [spindle_modSpindle_self _ _ _ h₁ h₂']; exact hb₁.symm
  · split
    · refine ListLaw.admission (ListLawBut.leaves_down ((hs₁.but n).modSpindle _) hn ?_ ?_ ?_) _
      · rw [modSpindle_fitted, hf₁]
      · rw [spindle_modSpindle_self _ _ _ h₁ h₂']
      · rw [spindle_modSpindle_self _ _ _ h₁ h₂']; exact hb₁
    · exact hs₁.rewriteEntry (q.listed n ▸ hl) _ _ (fun _ => rfl) (fun _ => rfl) (fun _ => rfl)
        (fun _ _ => .inl ⟨rfl, rfl, rfl, rfl⟩)

/-- A failed attempt takes the spindle from SERVICING and leaves the carriages. -/
theorem failedAttempt_state {s : State} {n : Nat} (h₁ : 1 ≤ n) (h₂ : n ≤ s.spindles.length) :
    ¬ ((failedAttempt n s).spindle n).state = .servicing ∧ ∀ x, (failedAttempt n s).carriage x = s.carriage x := by
  unfold failedAttempt
  simp only
  split
  · refine ⟨?_, fun x => by simp⟩
    rw [(admission_leaves _ _).1] <;>
      simp [spindle_leaveDispatch_self n _ h₁, h₂, spindle_modSpindle_self n _ _ h₁, waitsOutside]
  · split
    · next hheld =>
      refine ⟨?_, fun x => by simp⟩
      rw [(admission_leaves _ _).1] <;>
        simp [spindle_leaveDispatch_self n _ h₁, h₂, spindle_modSpindle_self n _ _ h₁, waitsOutside, setListStatus, hheld]
    · refine ⟨?_, fun x => by simp⟩
      simp [h₂, spindle_modSpindle_self n _ _ h₁]

end Sys2Proof.Machine
end

section
/-! SUPPORT. The changes of a spindle's record and of a carriage keep the list law: confirmed sense values, service, holds,
outcomes, losses and findings (1.4, 1.5, chapters 4 and 5). -/

namespace Sys2Proof.Machine

/-- A change made to each of a list of spindles keeps what each single change keeps. -/
theorem forEach_keeps {P : State → Prop} {f : Nat → State → State} (hf : ∀ n t, P t → P (f n t)) (ns : List Nat) {s : State}
    (h : P s) : P (forEach f ns s) :=
  List.foldlRecOn (motive := P) ns _ h (fun t ht n _ => hf n t ht)

/-! ### Confirmed sense values -/

/-- A record that has begun to spin leaves dispatch. -/
theorem ListLaw.spins {s t : State} (h : ListLaw s) {n : Nat} (hv : ¬ (s.spindle n).state = .vacant) (slow : Bool)
    (q : ListQuiet (spindleSpins n slow s) t) : ListLaw (removeFromDispatch n t) := by
  obtain ⟨hn, h₁, h₂, hf⟩ := h.of_counted hv
  have hsp : (spindleSpins n slow s).spindle n = spinUp s.dc.frameLength s.sa.mark s.df.mark slow (s.spindle n) :=
    spindle_modSpindle_self n _ s h₁ h₂
  have hbut : ListLawBut n t := ListLawBut.quiet ((h.but n).modSpindle _) q
  obtain ⟨hst, -, hb, -⟩ := q.spindle n
  rw [hsp] at hst hb
  refine (hbut.leaves hn ?_ (.inl hst) ?_).afterRemoval _ _
  · rw [q.fitted, spindleSpins, modSpindle_fitted, hf]
  · rw [hst, hb]; rfl

theorem ListQuiet.creditPiecing (side : Side) (s : State) : ListQuiet s (creditPiecing side s) :=
  (ListQuiet.modCarriage (f := fun c => { c with pieced := satAdd top32 c.pieced 1 }) ⟨rfl, rfl⟩).trans
    (.of_eq rfl rfl rfl)

theorem ListLaw.confirmSpinning {s : State} (h : ListLaw s) (n : Nat) (slow : Bool) : ListLaw (confirmSpinning n slow s) := by
  unfold Machine.confirmSpinning
  cases hst : (s.spindle n).state <;> simp only
  case vacant => exact h
  case offline => exact h
  case spinning => exact h.quiet (ListQuiet.modSpindle (fun _ => ⟨rfl, rfl, rfl, id⟩))
  case unseen => exact h.spins (by simp [hst]) slow (.refl _)
  case down => exact h.spins (by simp [hst]) slow (.refl _)
  case starved => exact h.spins (by simp [hst]) slow (.refl _)
  case rogue => exact h.spins (by simp [hst]) slow (.refl _)
  case servicing => exact h.spins (by simp [hst]) slow (ListQuiet.creditPiecing _ _)
  case verifying => exact h.spins (by simp [hst]) slow (ListQuiet.creditPiecing _ _)

/-- A spindle without an entry goes DOWN and is handed for admission. -/
theorem ListLaw.goesDown {s t : State} (h : ListLaw s) {n : Nat} {f : Spindle → Spindle}
    (hst : ¬ (s.spindle n).state = .vacant ∧ ¬ (s.spindle n).state = .down ∧ ¬ (s.spindle n).state = .servicing ∧
      ¬ (s.spindle n).state = .verifying)
    (hf : (f (s.spindle n)).state = .down ∧ (f (s.spindle n)).breakMark.isSome = true)
    (q : ListQuiet (modSpindle n f s) t) : ListLaw (admitAndSelect n t) := by
  obtain ⟨hv, hnot⟩ := hst
  obtain ⟨hn, h₁, h₂, hfit⟩ := h.of_counted hv
  have hsp := spindle_modSpindle_self n f s h₁ h₂
  obtain ⟨hst, -, hb, -⟩ := q.spindle n
  rw [hsp] at hst hb
  refine ListLawBut.admitAndSelect (((h.but n).modSpindle f).quiet q) hn ?_ ?_ (hst.trans hf.1) (by rw [hb]; exact hf.2)
  · rw [q.fitted, modSpindle_fitted, hfit]
  · rw [q.listed, listed_modSpindle, h.not_listed hnot]

theorem ListLaw.confirmEndDown {s : State} (h : ListLaw s) (n : Nat) : ListLaw (confirmEndDown n s) := by
  unfold Machine.confirmEndDown
  cases hst : (s.spindle n).state <;> simp only
  case spinning => exact h.goesDown (by simp [hst]) ⟨rfl, rfl⟩ (.of_eq rfl rfl rfl)
  case unseen =>
    exact h.goesDown (by simp [hst]) ⟨rfl, h.breakMark (by rw [hst]; rfl)⟩ (.refl _)
  case starved =>
    exact h.goesDown (by simp [hst]) ⟨rfl, h.breakMark (by rw [hst]; rfl)⟩ (.refl _)
  all_goals exact h

/-- A counted spindle leaves dispatch for STARVED or OFFLINE, its break mark kept or taken. -/
theorem ListLaw.leaves_for {s : State} (h : ListLaw s) {n : Nat} (hv : ¬ (s.spindle n).state = .vacant)
    {f : Spindle → Spindle}
    (hf : (f (s.spindle n)).state = .starved ∨ (f (s.spindle n)).state = .offline)
    (hb : (f (s.spindle n)).breakMark.isSome = true) :
    ListLaw (leaveDispatch n (modSpindle n f s)) := by
  obtain ⟨hn, h₁, h₂, hfit⟩ := h.of_counted hv
  have hsp := spindle_modSpindle_self n f s h₁ h₂
  refine ((h.but n).modSpindle f).leaves hn (by rw [modSpindle_fitted, hfit]) ?_ ?_
  · rw [hsp]; rcases hf with hf | hf <;> simp [hf]
  · rw [hsp, hb]; rcases hf with hf | hf <;> rw [hf] <;> rfl

/-- A spindle that leaves dispatch keeps its state. -/
theorem state_leaveDispatch (n m : Nat) (s : State) : ((leaveDispatch n s).spindle m).state = (s.spindle m).state := by
  unfold leaveDispatch
  rw [spindle_modSpindle]
  split <;> rfl

theorem ListLaw.confirmNoRoving {s : State} (h : ListLaw s) (n : Nat) : ListLaw (confirmNoRoving n s) := by
  have hleave (hv : ¬ (s.spindle n).state = .vacant) :
      ListLaw (leaveDispatch n (modSpindle n (goDown .starved s.dc.frameLength) s)) := h.leaves_for hv (.inl rfl) rfl
  unfold Machine.confirmNoRoving
  cases hst : (s.spindle n).state <;> simp only
  case spinning => exact (hleave (by simp [hst])).afterRemoval _ _
  case down => exact (hleave (by simp [hst])).afterRemoval _ _
  case unseen => exact (hleave (by simp [hst])).afterRemoval _ _
  case verifying => exact (hleave (by simp [hst])).afterRemoval _ _
  case servicing =>
    have hv : ¬ (s.spindle n).state = .vacant := by simp [hst]
    obtain ⟨-, h₁, h₂, -⟩ := h.of_counted hv
    refine ((hleave hv).cancelPiece ?_).afterRemoval _ _
    rw [state_leaveDispatch, spindle_modSpindle_self _ _ _ h₁ h₂]
    simp [goDown]
  all_goals exact h

theorem ListLaw.confirmChange {s : State} (h : ListLaw s) (n : Nat) (v : Sense) : ListLaw (confirmChange n v s) := by
  unfold Machine.confirmChange
  cases v
  · exact h.confirmSpinning n false
  · exact h.confirmEndDown n
  · exact h.confirmSpinning n true
  · exact h.confirmNoRoving n

/-! ### Service -/

theorem ListLaw.takeOffline {s : State} (n : Nat) (h : ListLaw s) : ListLaw (takeOffline n s) := by
  unfold Machine.takeOffline
  simp only
  split
  · exact h
  · next hst =>
    have hv : ¬ (s.spindle n).state = .vacant := fun hv => hst (.inr hv)
    obtain ⟨-, h₁, h₂, -⟩ := h.of_counted hv
    have hleave : ListLaw (leaveDispatch n
        (modSpindle n (fun q => { goDown .offline s.dc.frameLength q with attempts := 0 }) s)) :=
      h.leaves_for hv (.inr rfl) rfl
    split
    · refine hleave.cancelPiece ?_
      rw [state_leaveDispatch, spindle_modSpindle_self _ _ _ h₁ h₂]
      simp [goDown]
    · exact hleave

theorem ListLaw.serviceOutOne {s : State} (n : Nat) (h : ListLaw s) : ListLaw (serviceOutOne n s) :=
  (h.takeOffline n).afterRemoval _ _

theorem ListLaw.serviceOutAll {s : State} (k : Nat) (h : ListLaw s) : ListLaw (serviceOutAll k s) :=
  (forEach_keeps (fun n _ ht => ht.takeOffline n) _ h).afterRemoval _ _

theorem ListLaw.bringIn {s : State} (n : Nat) (h : ListLaw s) : ListLaw (bringIn n s) := by
  unfold Machine.bringIn
  split
  · next hst =>
    obtain ⟨hn, h₁, h₂, hf⟩ := h.of_counted (n := n) (by simp [hst])
    have hl := h.not_listed (n := n) (by simp [hst])
    obtain ⟨-, -, -, -, hnone⟩ := h.records n hn
    have hb := h.breakMark (n := n) (by rw [hst]; rfl)
    have hsp := spindle_modSpindle_self n (fun p => { p with state := .unseen }) s h₁ h₂
    refine ListLaw.quiet (ListLawBut.close_away ((h.but n).modSpindle (fun p => { p with state := .unseen }))
      (by rw [listed_modSpindle, hl]) ?_ ?_ ?_ ?_) (.of_eq (by simp) (by simp) (by simp))
    · rw [hsp, modSpindle_fitted, hf]; simp
    · rw [hsp]; simp
    · rw [hsp]; exact hb.symm
    · rw [hsp]; exact hnone.mpr ⟨by simp [hst], hl⟩
  · exact h

/-! ### Holds -/

theorem ListLaw.holdSpindle {s : State} (n : Nat) (h : ListLaw s) : ListLaw (holdSpindle n s) := by
  have hset (hst : ¬ (s.spindle n).state = .vacant ∧ ¬ (s.spindle n).state = .down ∧ ¬ (s.spindle n).state = .servicing ∧
      ¬ (s.spindle n).state = .verifying) : ListLaw (modSpindle n (fun q => { q with held := true }) s) := by
    obtain ⟨hv, hnot⟩ := hst
    obtain ⟨hn, h₁, h₂, hf⟩ := h.of_counted hv
    have hl := h.not_listed hnot
    obtain ⟨hvac, hb, -, -, hnone⟩ := h.records n hn
    have hsp := spindle_modSpindle_self n (fun q => { q with held := true }) s h₁ h₂
    refine ListLawBut.close_away ((h.but n).modSpindle _) (by rw [listed_modSpindle, hl]) ?_ ?_ ?_ ?_
    · rw [hsp, modSpindle_fitted]; exact hvac
    · rw [hsp]; exact hnot
    · rw [hsp]; exact hb
    · rw [hsp]; exact hnone.mpr ⟨hnot.1, hl⟩
  unfold Machine.holdSpindle
  simp only
  split
  · exact h
  · cases hst : (s.spindle n).state <;> simp only
    case vacant => exact h
    case verifying => exact h.quiet (ListQuiet.modEntry (fun _ => ⟨rfl, rfl, rfl, fun _ => id⟩))
    case down =>
      obtain ⟨hn, h₁, h₂, hf⟩ := h.of_counted (n := n) (by simp [hst])
      have hb := h.breakMark (n := n) (by rw [hst]; rfl)
      refine ListLawBut.leaves_down ((h.but n).modSpindle _) hn (by rw [modSpindle_fitted, hf]) ?_ ?_ <;>
        rw [spindle_modSpindle_self _ _ _ h₁ h₂]
      · exact hst
      · exact hb
    case servicing =>
      obtain ⟨hn, h₁, h₂, hf⟩ := h.of_counted (n := n) (by simp [hst])
      have hb := h.breakMark (n := n) (by rw [hst]; rfl)
      have h₂' (f : Spindle → Spindle) : n ≤ (modSpindle n f s).spindles.length := by simpa using h₂
      refine (ListLawBut.leaves_down (((h.but n).modSpindle _).modSpindle _) hn
        (by rw [modSpindle_fitted, modSpindle_fitted, hf]) ?_ ?_).cancelPiece ?_
      · rw [spindle_modSpindle_self _ _ _ h₁ (h₂' _)]
      · rw [spindle_modSpindle_self _ _ _ h₁ (h₂' _), spindle_modSpindle_self _ _ _ h₁ h₂]; exact hb
      · rw [setListStatus, spindle_modSpindle_self _ _ _ h₁ (by simpa using h₂), state_leaveDispatch,
          spindle_modSpindle_self _ _ _ h₁ (h₂' _)]
        simp
    all_goals exact hset (by simp [hst])

theorem ListLaw.holdOne {s : State} (n : Nat) (h : ListLaw s) : ListLaw (holdOne n s) := (h.holdSpindle n).afterRemoval _ _

theorem ListLaw.holdAllOf {s : State} (k : Nat) (h : ListLaw s) : ListLaw (holdAllOf k s) :=
  (forEach_keeps (fun n _ ht => ht.holdSpindle n) _ h).afterRemoval _ _

theorem ListQuiet.releaseSpindle (n : Nat) (s : State) : ListQuiet s (releaseSpindle n s) :=
  (ListQuiet.modSpindle (f := fun p => { p with held := false }) (fun _ => ⟨rfl, rfl, rfl, by simp⟩)).trans
    (ListQuiet.modEntry (fun _ => ⟨rfl, rfl, rfl, fun _ => id⟩))

theorem ListLaw.releaseTarget {s : State} (t : Target) (h : ListLaw s) : ListLaw (releaseTarget t s) :=
  (forEach_keeps (fun n u hu => hu.quiet (ListQuiet.releaseSpindle n u)) _ h).admitThenSelect _

theorem ListQuiet.globalHold (b : Bool) (s : State) : ListQuiet s { s with pd.globalHold := b } where
  geometry := rfl
  size := rfl
  spindle _ := Spindle.listQuiet_refl _
  carriage side := by cases side <;> exact ⟨rfl, rfl⟩
  list side := ⟨id, by cases side <;> exact (List.map_id _).symm, Entry.listQuiet_refl⟩

theorem ListLaw.clearHolds {s : State} (h : ListLaw s) : ListLaw (clearHolds s) := by
  unfold Machine.clearHolds
  split
  · have q : ListQuiet s (modAllEntries (fun e => { e with holdPending := false })
        (modAllSpindles (fun p => { p with held := false }) { s with pd.globalHold := false })) :=
      ListQuiet.trans (ListQuiet.trans (ListQuiet.globalHold false s)
        (ListQuiet.modAllSpindles (f := fun p => { p with held := false }) (fun _ => ⟨rfl, rfl, rfl, by simp⟩)))
        (ListQuiet.modAllEntries (f := fun e => { e with holdPending := false }) (fun _ => ⟨rfl, rfl, rfl, fun _ => id⟩))
    exact (((h.quiet q).admission .A).admission .B).selectBoth
  · exact h

theorem ListLaw.releaseRogue {s : State} {n : Nat} (hst : (s.spindle n).state = .rogue) (h : ListLaw s) :
    ListLaw (releaseRogue n s) :=
  h.goesDown (by simp [hst]) ⟨rfl, h.breakMark (by rw [hst]; rfl)⟩ (.refl _)

/-! ### Carriages out, in and home -/

theorem ListQuiet.boundPark (side : Side) (s : State) : ListQuiet s (boundPark side s) := by
  refine ListQuiet.modCarriage ?_
  split <;> exact ⟨rfl, rfl⟩

theorem ListQuiet.stopParkTimer (s : State) : ListQuiet s (stopParkTimer s) :=
  (ListQuiet.of_eq (s := s) (t := { s with df.parkTimer := s.df.parkTimer.stop }) rfl rfl rfl).trans
    ((ListQuiet.boundPark .A _).trans (ListQuiet.boundPark .B _))

theorem ListQuiet.enterStopping (s : State) : ListQuiet s (enterStopping s) := by
  unfold Machine.enterStopping
  simp only
  split <;> exact .of_eq rfl rfl rfl

theorem ListQuiet.parkWait (s : State) : ListQuiet s (parkWait s) := by
  unfold Machine.parkWait
  split
  · exact (ListQuiet.stopParkTimer s).trans (ListQuiet.enterStopping _)
  · exact .refl s

theorem ListQuiet.clearPassedOver (side : Side) (s : State) : ListQuiet s (clearPassedOver side s) :=
  ListQuiet.setList_map (fun _ => ⟨rfl, rfl, rfl, fun _ => id⟩)

/-- A carriage enters IDLE with its slot empty (R81, R103). -/
theorem ListLaw.enterIdle {s : State} (h : ListLaw s) (side : Side) (hslot : (s.carriage side).slot = none) :
    ListLaw (enterIdle side s) :=
  (h.emptyCarriage side hslot (.inl rfl) (servicedBy_of_slot_none hslot)).quiet (ListQuiet.clearPassedOver side _)

/-- A carriage whose piece has been taken back empties its slot and stands where `x` says. -/
theorem ListLaw.emptied {s : State} (h : ListLaw s) (side : Side) {x : CarriageState} (position : Carriage → Nat)
    (hx : x = .idle ∨ x = .parked ∨ x = .out) (hfree : ∀ m, ¬ s.servicedBy side = some m) :
    ListLaw (Machine.modCarriage side (fun c => { c with state := x, position := position c }) (emptySlot side s)) := by
  unfold emptySlot
  rw [modCarriage_modCarriage]
  exact h.emptyCarriage side rfl hx hfree

theorem ListLaw.carriageGoesOut {s : State} (h : ListLaw s) (side : Side) (raised : Bool) :
    ListLaw (carriageGoesOut side raised s) := by
  unfold Machine.carriageGoesOut
  split
  · exact h
  · have hout : ListLaw (Machine.modCarriage side (fun c => { c with state := .out }) (emptySlot side (Machine.takeBackPiece side s))) :=
      (h.takeBackPiece side).emptied side (fun c => c.position) (.inr (.inr rfl)) (takeBackPiece_frees side s)
    simp only
    split
    · exact hout.quiet ((ListQuiet.raiseEvent _ _ _).trans (ListQuiet.parkWait _))
    · exact hout.quiet (ListQuiet.parkWait _)

theorem ListLaw.haltCarriage {s : State} (h : ListLaw s) (side : Side) : ListLaw (haltCarriage side s) := by
  unfold Machine.haltCarriage
  split
  · exact h
  · exact ((h.takeBackPiece side).emptied side (fun c => c.position) (.inr (.inl rfl)) (takeBackPiece_frees side s)).quiet
      (ListQuiet.parkWait _)

theorem ListLaw.parkCarriage {s : State} (h : ListLaw s) (side : Side) : ListLaw (parkCarriage side s) := by
  unfold Machine.parkCarriage
  cases hst : (s.carriage side).state <;> simp only
  case idle =>
    exact h.placeOrder side .park (servicedBy_of_slot_none ((h.slots side).slot_none (.inl hst)))
  case assigned => exact (h.takeBackPiece side).placeOrder side .park (takeBackPiece_frees side s)
  case working => exact (h.takeBackPiece side).placeOrder side .park (takeBackPiece_frees side s)
  all_goals exact h

/-- A carriage with a CANCEL or a PARK in its slot serves no spindle. -/
theorem free_of_not_piece {s : State} {side : Side} {o : CarriageOrder} (ho : (s.carriage side).slot = some o)
    (hk : o.kind.isPiece = false) (m : Nat) : ¬ s.servicedBy side = some m := by
  rw [servicedBy_eq_some, ho]
  rintro ⟨⟨p, hp⟩, -⟩
  rw [Option.map_some, Option.some.injEq] at hp
  rw [hp] at hk
  cases hk

theorem ListLaw.returnCarriage {s : State} (h : ListLaw s) (side : Side) : ListLaw (returnCarriage side s) := by
  unfold Machine.returnCarriage
  simp only
  cases hst : (s.carriage side).state <;> simp only
  case parked => exact h.enterIdle side ((h.slots side).slot_none (.inr (.inl hst)))
  case parking =>
    split
    · exact h
    · have hs := h.slots side
      unfold Carriage.slotAgrees at hs
      rw [hst] at hs
      cases ho : (s.carriage side).slot with
      | none => rw [ho] at hs; exact hs.elim
      | some o =>
        rw [ho] at hs
        exact ((h.emptied side (fun c => c.position) (.inl rfl) (free_of_not_piece ho (by rw [hs]; rfl)))).quiet
          (ListQuiet.clearPassedOver side _)
  all_goals exact h

/-- A carriage that is OUT is restored or found (R105, R107). -/
theorem ListLaw.bringBack {s : State} (h : ListLaw s) {side : Side} (hout : (s.carriage side).state = .out) :
    ListLaw (bringBack side s) := by
  have hslot := (h.slots side).slot_none (.inr (.inr hout))
  unfold Machine.bringBack
  split
  · exact (h.enterIdle side hslot).selectFor side
  · exact (h.emptyCarriage side hslot (.inr (.inl rfl)) (servicedBy_of_slot_none hslot)).quiet (ListQuiet.parkWait _)

theorem ListLaw.carriageFound {s : State} (h : ListLaw s) (side : Side) : ListLaw (carriageFound side s) := by
  unfold Machine.carriageFound
  split
  · next hc =>
    exact (h.quiet (ListQuiet.modCarriage (f := fun c => { c with awaiting := false }) ⟨rfl, rfl⟩)).bringBack
      (by rw [carriage_modCarriage_self]; exact hc.1)
  · exact h

/-! ### Acknowledgements, outcomes and places -/

theorem ListLaw.collectOrder {s : State} (h : ListLaw s) (side : Side) (number : Nat) : ListLaw (collectOrder side number s) := by
  unfold Machine.collectOrder
  split
  · exact h
  · next o ho =>
    split
    · next hc =>
      have hs := h.slots side
      unfold Carriage.slotAgrees at hs
      refine h.modCarriage side ?_ (fun m hm => ?_)
      · rw [ho] at hs
        unfold Carriage.slotAgrees
        obtain ⟨k, x, collected⟩ := o
        cases hst : (s.carriage side).state <;> rw [hst] at hs <;> cases k <;> simp_all [OrderKind.isPiece]
      · obtain ⟨⟨p, hp⟩, -⟩ := servicedBy_eq_some.mp hm
        rw [ho] at hp
        exact ⟨p, hp⟩
    · exact h

/-- A collected order stays of its kind. -/
theorem kind_collectOrder (side : Side) (number : Nat) (s : State) :
    ((collectOrder side number s).carriage side).slot.map (fun o => o.kind) = (s.carriage side).slot.map (fun o => o.kind) := by
  unfold collectOrder
  split
  · rfl
  · next o ho => split <;> simp [ho]

/-- A BLOCKED piece: the entry goes to the tail (R71). -/
theorem ListLaw.blockEntry {s : State} (h : ListLaw s) {n : Nat} (hst : (s.spindle n).state = .servicing) :
    ListLaw (blockEntry n s) := by
  obtain ⟨hn, h₁, h₂, hf⟩ := h.of_counted (n := n) (by simp [hst])
  obtain ⟨e₀, he₀, hen₀, -⟩ := h.entry_of_state (.inl hst)
  have hl : s.listed n = true := (listed_iff s n).mpr ⟨e₀, he₀, hen₀⟩
  have hb := h.breakMark (n := n) (by rw [hst]; rfl)
  have hheld := h.held hl
  have hsp := spindle_modSpindle_self n (fun p => { p with state := .down, listStatus := .waiting }) s h₁ h₂
  have hbut := (h.but n).modSpindle (fun p => { p with state := .down, listStatus := .waiting })
  unfold Machine.blockEntry
  simp only
  cases hfind : (modSpindle n (fun p => { p with state := .down, listStatus := .waiting }) s).entry? n with
  | none =>
    rw [entry?_modSpindle] at hfind
    simp [State.listed, hfind] at hl
  | some e =>
    have hen : e.spindle = n := by
      have := List.find?_some hfind
      simpa using this
    simp only
    refine ListLawBut.close_listed (hbut.dropEntry.appendEntry (listed_dropEntry _ _) hen) ?_ ?_ (fun g hg hgn => ?_) ?_
    · rw [listed_iff, list_setList_self]; exact ⟨_, List.mem_append_right _ (List.mem_singleton_self _), hen⟩
    · rw [← hf]; simp [State.fitted]
    · rw [list_setList_self, List.mem_append] at hg
      obtain hg | hg := hg
      · exact absurd hgn ((not_listed_iff _ n).mp (listed_dropEntry _ _) g hg)
      · obtain rfl := List.mem_singleton.mp hg
        obtain ⟨hn₁, hn₂⟩ := mem_allSpindles.mp hn
        unfold State.entryAgrees
        simp only [spindle_setList, spindle_dropEntry, hen, hsp]
        exact ⟨hn₁, hn₂, trivial, hheld, trivial, trivial, trivial⟩
    · rw [spindle_setList, spindle_dropEntry, hsp]; exact hb

theorem blockEntry_state {s : State} {n : Nat} (h₁ : 1 ≤ n) (h₂ : n ≤ s.spindles.length) :
    ¬ ((blockEntry n s).spindle n).state = .servicing ∧ ∀ x, (blockEntry n s).carriage x = s.carriage x := by
  unfold blockEntry
  simp only
  split <;> simp [spindle_modSpindle_self _ _ _ h₁ h₂]

theorem startVerifying_state {s : State} {n : Nat} (h₁ : 1 ≤ n) (h₂ : n ≤ s.spindles.length) :
    ¬ ((startVerifying n s).spindle n).state = .servicing ∧ ∀ x, (startVerifying n s).carriage x = s.carriage x := by
  simp [startVerifying, spindle_modSpindle_self _ _ _ h₁ h₂]

theorem ListLaw.freeCarriage {s : State} (h : ListLaw s) (side : Side) (hfree : ∀ m, ¬ s.servicedBy side = some m) :
    ListLaw (freeCarriage side s) :=
  h.emptied side (fun c => c.position) (.inl rfl) hfree

/-- An outcome that fits the order in the slot has its effect (R98, R99). -/
theorem ListLaw.applyOutcome {s : State} (h : ListLaw s) {side : Side} {x : Outcome} {o : CarriageOrder}
    (ho : (s.carriage side).slot = some o) (hfit : fits o.kind x = true) : ListLaw (applyOutcome side x s) := by
  have hnone (hn : s.servicedBy side = none) (m : Nat) : ¬ s.servicedBy side = some m := by simp [hn]
  unfold Machine.applyOutcome
  cases hserv : s.servicedBy side with
  | some n =>
    have hst := (servicedBy_eq_some.mp hserv).2
    obtain ⟨h₁, h₂⟩ := spindle_in_table s n (by simp [hst])
    cases x <;> simp only
    case pieced =>
      obtain ⟨hleft, hc⟩ := startVerifying_state h₁ h₂
      exact (h.startVerifying (h.listed_of_servicedBy hserv)).freeCarriage side (free_of_not_servicing hserv (hc side) hleft)
    case missed =>
      obtain ⟨hleft, hc⟩ := failedAttempt_state h₁ h₂
      exact (h.failedAttempt (.inl hst)).freeCarriage side (free_of_not_servicing hserv (hc side) hleft)
    case blocked =>
      obtain ⟨hleft, hc⟩ := blockEntry_state h₁ h₂
      exact (h.blockEntry hst).freeCarriage side (free_of_not_servicing hserv (hc side) hleft)
    case refused => exact h.carriageGoesOut side true
    case fault => exact h.carriageGoesOut side true
    all_goals
      obtain ⟨⟨p, hp⟩, -⟩ := servicedBy_eq_some.mp hserv
      rw [ho, Option.map_some, Option.some.injEq] at hp
      rw [hp] at hfit
      simp [fits] at hfit
  | none =>
    cases x <;> simp only
    case refused => exact h.carriageGoesOut side true
    case fault => exact h.carriageGoesOut side true
    case parked =>
      have hp : ListLaw (Machine.modCarriage side (fun c => { c with state := .parked, position := 0 }) (emptySlot side s)) :=
        h.emptied side (fun _ => 0) (.inr (.inl rfl)) (hnone hserv)
      split
      · exact hp.enterIdle side (by rw [carriage_modCarriage_self]; simp [emptySlot])
      · exact hp.quiet (ListQuiet.parkWait _)
    all_goals exact h.freeCarriage side (hnone hserv)

theorem ListQuiet.overtakeOrder (side : Side) (s t : State) : ListQuiet t (overtakeOrder side s t) :=
  .of_eq (by simp) (by simp) (by simp)

/-- An outcome that matches the order in the slot, taken whole (R97). -/
theorem ListLaw.matchedOutcome {s : State} (h : ListLaw s) {side : Side} {x : Outcome} {o : CarriageOrder}
    (ho : (s.carriage side).slot = some o) (hfit : fits o.kind x = true) (number position : Nat) :
    ListLaw (matchedOutcome side number x position s) := by
  have hkind := kind_collectOrder side number s
  rw [ho] at hkind
  obtain ⟨o', ho', hk'⟩ := Option.map_eq_some_iff.mp hkind
  have q : ListQuiet (Machine.collectOrder side number s)
      (Machine.modCarriage side (fun c => { c with position := min 960 position }) (Machine.collectOrder side number s)) :=
    ListQuiet.modCarriage ⟨rfl, rfl⟩
  unfold Machine.matchedOutcome
  simp only
  refine ListLaw.quiet (ListLaw.selectFor ?_ side) (ListQuiet.overtakeOrder side s _)
  split
  · refine ((h.collectOrder side number).quiet q).applyOutcome (o := o') ?_ (by rw [hk']; exact hfit)
    rw [(q.carriage side).2, ho']
  · have q' := q.trans (ListQuiet.clearPassedOver side _)
    refine ((h.collectOrder side number).quiet q').applyOutcome (o := o') ?_ (by rw [hk']; exact hfit)
    rw [(q'.carriage side).2, ho']

theorem ListQuiet.staleOutcome (side : Side) (s : State) : ListQuiet s (staleOutcome side s) :=
  ListQuiet.modCarriage ⟨rfl, rfl⟩

theorem matchOutcome_eq_some {s : State} {side : Side} {number code : Nat} {x : Outcome}
    (h : s.matchOutcome side number code = some x) : ∃ o, (s.carriage side).slot = some o ∧ fits o.kind x = true := by
  unfold State.matchOutcome at h
  split at h
  · cases h
  · split at h
    · next o y ho _ =>
      split at h
      · next hc => cases h; exact ⟨o, ho, hc.2⟩
      · cases h
    · cases h

theorem ListLaw.takeOutcome {s : State} (h : ListLaw s) (side : Side) (number code position : Nat) :
    ListLaw (takeOutcome side number code position s) := by
  unfold Machine.takeOutcome
  split
  · next x hx =>
    obtain ⟨o, ho, hfit⟩ := matchOutcome_eq_some hx
    exact h.matchedOutcome ho hfit number position
  · exact h.quiet (ListQuiet.staleOutcome side s)

theorem ListLaw.takePlace {s : State} (h : ListLaw s) (side : Side) (position : Nat) (d : Direction) :
    ListLaw (takePlace side position d s) :=
  (h.quiet (ListQuiet.modCarriage ⟨rfl, rfl⟩)).selectFor side

end Sys2Proof.Machine
end

section
/-! SUPPORT. The Doff Controller, Sense Intake, the Roving Monitor, the frame line and the resets keep the list law (chapters 2, 3,
6, 7, 9). -/

namespace Sys2Proof.Machine

/-! ### The Doff Controller (chapter 6) -/

theorem ListQuiet.chargeStopTime (s : State) : ListQuiet s (chargeStopTime s) := by
  unfold Machine.chargeStopTime
  split <;> exact .of_eq rfl rfl rfl

theorem ListQuiet.stopStopTime (s : State) : ListQuiet s (stopStopTime s) :=
  (ListQuiet.chargeStopTime s).trans (.of_eq rfl rfl rfl)

theorem ListQuiet.dropProgress (s : State) : ListQuiet s (dropProgress s) := by
  unfold Machine.dropProgress
  split
  · exact .of_eq (by simp) (by simp) (by simp)
  · exact .refl s

theorem ListQuiet.enterHalted (detail : Nat) (s : State) : ListQuiet s (enterHalted detail s) :=
  .of_eq (by simp [Machine.enterHalted]) (by simp [Machine.enterHalted]) (by simp [Machine.enterHalted])

theorem ListQuiet.enterFaulted (cause : Nat) (s : State) : ListQuiet s (enterFaulted cause s) := by
  unfold Machine.enterFaulted
  simp only
  split <;> exact .of_eq (by simp) (by simp) (by simp)

theorem ListQuiet.enterDoffing (s : State) : ListQuiet s (enterDoffing s) := .of_eq rfl rfl rfl

theorem ListQuiet.completeDoff (detail : Nat) (s : State) : ListQuiet s (completeDoff detail s) := by
  have q : ListQuiet { s with df.mark := s.dc.frameLength }
      (Machine.modAllSpindles (fun p => { p with lostDoff := 0 }) { s with df.mark := s.dc.frameLength }) :=
    ListQuiet.modAllSpindles (fun _ => ⟨rfl, rfl, rfl, id⟩)
  unfold Machine.completeDoff
  refine ListQuiet.trans ?_ (q.trans ?_)
  · exact .of_eq rfl rfl rfl
  · exact .of_eq (by simp) (by simp) (by simp)

theorem ListQuiet.overtakeDoff (s t : State) : ListQuiet t (overtakeDoff s t) := .of_eq (by simp) (by simp) (by simp)

theorem ListLaw.enterDue {s : State} (h : ListLaw s) (detail : Nat) : ListLaw (enterDue detail s) := by
  have q : ListQuiet s (setDoff .due (raiseEvent .doffDue detail s)) := .of_eq (by simp) (by simp) (by simp)
  unfold Machine.enterDue
  refine ListLaw.quiet (ListLaw.quiet (((h.quiet q).parkCarriage .A).parkCarriage .B) ?_) (ListQuiet.parkWait _)
  exact .of_eq rfl rfl rfl

theorem ListLaw.dueTest {s : State} (h : ListLaw s) : ListLaw (dueTest s) := by
  unfold Machine.dueTest
  split
  · split
    · exact h.enterDue 1
    · exact h
  · split
    · exact h.enterDue 0
    · exact h

theorem ListLaw.enterSpinning {s : State} (h : ListLaw s) : ListLaw (enterSpinning s) := by
  have hset : ListLaw (setDoff .spinning s) := h.quiet (.of_eq rfl rfl rfl)
  exact ((((hset.returnCarriage .A).returnCarriage .B).selectBoth).quiet
    ((ListQuiet.stopStopTime _).trans (ListQuiet.dropProgress _))).dueTest

theorem ListLaw.doffTakesReport {s : State} (h : ListLaw s) (d : DriveState) (changed refound : Bool) :
    ListLaw (doffTakesReport d changed refound s) := by
  have hset (x : DoffState) : ListLaw (setDoff x s) := h.quiet (.of_eq rfl rfl rfl)
  have hfault (cause : Nat) : ListLaw (enterFaulted cause s) := h.quiet (ListQuiet.enterFaulted cause s)
  have hstop : ListLaw (stopDoffTimer s) := h.quiet (.of_eq rfl rfl rfl)
  unfold Machine.doffTakesReport
  cases s.df.state <;> simp only
  case looking =>
    split
    · exact h.enterSpinning
    · exact hfault 8
    all_goals exact hset .halted
  case spinning =>
    split
    · exact h.dueTest
    · exact h.quiet (ListQuiet.enterHalted _ s)
  case halted =>
    split
    · exact h.enterSpinning
    · exact h
  case due =>
    split
    · exact h
    · exact h.quiet ((ListQuiet.stopParkTimer s).trans (ListQuiet.enterHalted _ _))
  case stopping =>
    cases d <;> simp only
    case stopped =>
      split
      · exact hstop.quiet (.of_eq rfl rfl rfl)
      · exact hstop.quiet (ListQuiet.enterDoffing _)
    case fault => exact hfault 2
    all_goals exact h
  case restarting =>
    split
    · exact hstop.enterSpinning.quiet (ListQuiet.overtakeDoff s _)
    · exact h
  case faulted => exact h
  case blocked => exact h
  all_goals
    split
    · exact hfault 7
    · exact h

theorem ListQuiet.doffLosesDrive (s : State) : ListQuiet s (doffLosesDrive s) := by
  unfold Machine.doffLosesDrive
  cases s.df.state <;> simp only
  case spinning => exact ListQuiet.enterHalted 4 s
  case due => exact (ListQuiet.stopParkTimer s).trans (ListQuiet.enterHalted 4 _)
  case stopping => exact ListQuiet.enterFaulted 3 s
  all_goals exact .refl s

theorem ListQuiet.doffLosesDoffer (s : State) : ListQuiet s (doffLosesDoffer s) := by
  unfold Machine.doffLosesDoffer
  split
  · exact ListQuiet.enterFaulted 5 s
  · exact .refl s

theorem ListQuiet.takeDoffStep (k : Nat) (s : State) : ListQuiet s (takeDoffStep k s) := by
  unfold Machine.takeDoffStep
  split <;> exact .of_eq rfl rfl rfl

theorem ListQuiet.takeDoffEnd (done : Bool) (s : State) : ListQuiet s (takeDoffEnd done s) := by
  unfold Machine.takeDoffEnd
  split
  · split
    · exact (ListQuiet.completeDoff 0 s).trans (ListQuiet.overtakeDoff s _)
    · split
      · exact .refl s
      · exact ListQuiet.enterFaulted 4 s
  · exact .of_eq rfl rfl rfl

/-! ### Sense Intake and drive reports (chapters 2 and 3) -/

theorem ListQuiet.openGate (s : State) : ListQuiet s (openGate s) := by
  unfold Machine.openGate startWindows
  refine ListQuiet.trans ?_ (ListQuiet.modAllEntries (fun e => ?_))
  · exact .of_eq rfl rfl rfl
  · split
    · exact ⟨rfl, rfl, rfl, fun _ _ => rfl⟩
    · exact Entry.listQuiet_refl e

theorem ListQuiet.stopWindows (s : State) : ListQuiet s (stopWindows s) :=
  ListQuiet.modAllEntries (fun _ => ⟨rfl, rfl, rfl, fun _ hw => by simpa using hw⟩)

theorem ListQuiet.closeGate (s : State) : ListQuiet s (closeGate s) := by
  unfold Machine.closeGate
  split
  · exact .refl s
  · exact .of_eq rfl rfl rfl
  · refine ListQuiet.trans ?_ (ListQuiet.stopWindows _)
    exact .of_eq rfl rfl rfl

theorem ListLaw.openGateSelect {s : State} (h : ListLaw s) : ListLaw (openGateSelect s) :=
  (h.quiet (ListQuiet.openGate s)).selectBoth

theorem ListLaw.startSettling {s : State} (h : ListLaw s) : ListLaw (startSettling s) := by
  unfold Machine.startSettling
  simp only
  split
  · exact ListLaw.openGateSelect (h.quiet (.of_eq rfl rfl rfl))
  · exact h.quiet (.of_eq rfl rfl rfl)

theorem ListLaw.intakeTakesReport {s : State} (h : ListLaw s) (d : DriveState) (fresh : Bool) :
    ListLaw (intakeTakesReport d fresh s) := by
  unfold Machine.intakeTakesReport
  split
  · split
    · exact h.startSettling
    · exact h
  · exact h.quiet (ListQuiet.closeGate s)

theorem ListQuiet.compareReading (k n : Nat) (v : Option Sense) (s : State) : ListQuiet s (compareReading k n v s) := by
  unfold Machine.compareReading
  exact .of_eq (by simp) (by simp) (by simp)

theorem ListQuiet.clearCandidates (k : Nat) (s : State) : ListQuiet s (clearCandidates k s) :=
  ListQuiet.foldl (fun _ _ => .of_eq (by simp) (by simp) (by simp)) _ s

theorem ListLaw.takeSample {s : State} (h : ListLaw s) (k : Nat) (values : List (Option Sense)) :
    ListLaw (takeSample k values s) := by
  unfold Machine.takeSample
  simp only
  split
  · refine List.foldlRecOn (motive := ListLaw) _ _ ?_ (fun t ht r _ => ht.confirmChange r.1 r.2)
    refine ListLaw.quiet (h.quiet ?_) (ListQuiet.foldl (fun t (r : Nat × Option Sense) => ListQuiet.compareReading k r.1 r.2 t) _ _)
    exact .of_eq (by simp) (by simp) (by simp)
  · refine ListLaw.quiet (h.quiet ?_) (ListQuiet.clearCandidates k _)
    exact .of_eq (by simp) (by simp) (by simp)

theorem ListQuiet.applyPulses (p : Nat) (s : State) : ListQuiet s (applyPulses p s) := by
  unfold Machine.applyPulses
  simp only
  split <;> exact .of_eq (by simp) (by simp) (by simp)

theorem ListLaw.takePulse {s : State} (h : ListLaw s) (p : Nat) (d : DriveState) : ListLaw (takePulse p d s) := by
  unfold Machine.takePulse applyDriveState
  have hpulses := h.quiet (ListQuiet.applyPulses p s)
  generalize applyPulses p s = u at hpulses
  have hnoted : ListLaw { u with dc.drive := some d, dc.firstTaken := true, dc.refound := false } :=
    hpulses.quiet (.of_eq rfl rfl rfl)
  have hdoff := hnoted.doffTakesReport d (!(u.dc.drive == some d)) u.dc.refound
  have hgate := hdoff.intakeTakesReport d (!(u.dc.drive == some d) || !u.dc.firstTaken || u.dc.refound)
  simp only
  split
  · exact hgate.quiet (.of_eq rfl rfl rfl)
  · exact hgate

theorem ListQuiet.loseDrive (s : State) : ListQuiet s (loseDrive s) :=
  (ListQuiet.doffLosesDrive s).trans (ListQuiet.closeGate _)

/-! ### The Roving Monitor (chapter 7) -/

theorem ListQuiet.forEach {f : Nat → State → State} (hf : ∀ n t, ListQuiet t (f n t)) (ns : List Nat) (s : State) :
    ListQuiet s (forEach f ns s) :=
  ListQuiet.foldl (fun t n => hf n t) ns s

theorem ListQuiet.makeFill (mass : Option Nat) (n : Nat) (s : State) : ListQuiet s (makeFill mass n s) := by
  unfold Machine.makeFill
  split
  · exact .refl s
  · exact ListQuiet.modSpindle (fun _ => ⟨rfl, rfl, rfl, id⟩)

theorem ListQuiet.checkRunOut (n : Nat) (s : State) : ListQuiet s (checkRunOut n s) := by
  unfold Machine.checkRunOut
  simp only
  split
  · exact (ListQuiet.raiseEvent _ _ s).trans (ListQuiet.modSpindle (fun _ => ⟨rfl, rfl, rfl, id⟩))
  · exact .refl s

theorem ListQuiet.placeInQueue (k : Nat) (s : State) : ListQuiet s (placeInQueue k s) := by
  unfold Machine.placeInQueue
  simp only
  split
  · split
    · split
      · exact .of_eq rfl rfl rfl
      · exact .of_eq (by simp) (by simp) (by simp)
    · exact .of_eq rfl rfl rfl
  · exact .of_eq rfl rfl rfl

theorem ListQuiet.passSegment (k : Nat) (s : State) : ListQuiet s (passSegment k s) := by
  unfold Machine.passSegment
  refine ListQuiet.trans
    ((ListQuiet.forEach ListQuiet.checkRunOut (segmentSpindles k) s).trans ?_) (ListQuiet.placeInQueue k _)
  exact .of_eq (by simp) (by simp) (by simp)

theorem ListQuiet.runPass (p : Pass) (s : State) : ListQuiet s (runPass p s) := by
  cases p with
  | full => exact (ListQuiet.forEach ListQuiet.passSegment _ s).trans (.of_eq rfl rfl rfl)
  | segment k => exact ListQuiet.passSegment k s

theorem ListQuiet.takeDue (p : Pass) (s : State) : ListQuiet s (takeDue p s) := by
  unfold Machine.takeDue
  split
  · split
    · refine ListQuiet.trans ?_ (ListQuiet.runPass p _)
      exact .of_eq rfl rfl rfl
    · exact .refl s
  · exact .refl s

theorem ListQuiet.takeNextPass (s : State) : ListQuiet s (takeNextPass s) := by
  unfold Machine.takeNextPass
  split
  · exact ListQuiet.takeDue _ s
  · exact .refl s

theorem ListQuiet.takePasses (n : Nat) (s : State) : ListQuiet s (takePasses n s) :=
  takePasses_keeps (P := fun t => ListQuiet s t) (fun t ht => ht.trans (ListQuiet.takeNextPass t)) n s (.refl s)

/-- Fills, and LOT_FAULT where there is no mass to give, with the pass that falls due (R141, R144). -/
theorem ListQuiet.fills (mass : Option Nat) (ns : List Nat) (detail : Nat) (s : State) : ListQuiet s
    (if mass.isNone then Machine.raiseEvent .lotFault detail (Machine.forEach (Machine.makeFill mass) ns s)
     else Machine.forEach (Machine.makeFill mass) ns s) := by
  have q := ListQuiet.forEach (ListQuiet.makeFill mass) ns s
  split
  · exact q.trans (ListQuiet.raiseEvent _ _ _)
  · exact q

theorem ListQuiet.takeExchange (k cls : Nat) (positions : List Nat) (s : State) :
    ListQuiet s (takeExchange k cls positions s) := by
  unfold Machine.takeExchange
  split
  · exact .refl s
  · exact (ListQuiet.fills (s.lotMass cls) _ k s).trans (.of_eq rfl rfl rfl)

theorem ListQuiet.setRoving (t : Target) (mass : Option Nat) (s : State) : ListQuiet s (setRoving t mass s) :=
  (ListQuiet.fills mass _ (targetSegment t) s).trans (.of_eq rfl rfl rfl)

/-! ### The frame line (chapter 9) -/

theorem ListQuiet.raiseErrors (a : Nat) (s : State) : ListQuiet s (raiseErrors a s) := by
  unfold Machine.raiseErrors
  simp only
  split <;> exact .of_eq (by simp) (by simp) (by simp)

theorem ListLaw.tellLoss {s : State} (h : ListLaw s) (a : Nat) : ListLaw (tellLoss a s) := by
  unfold Machine.tellLoss
  split
  · exact h.quiet (ListQuiet.clearCandidates a s)
  · exact h.quiet (ListQuiet.loseDrive s)
  · exact h.carriageGoesOut _ false
  · exact h.quiet (ListQuiet.doffLosesDoffer s)
  all_goals exact h

theorem ListLaw.tellFinding {s : State} (h : ListLaw s) (a : Nat) : ListLaw (tellFinding a s) := by
  unfold Machine.tellFinding
  split
  case h_2 => exact h.quiet (.of_eq rfl rfl rfl)
  case h_3 => exact h.carriageFound _
  all_goals exact h

theorem ListLaw.failVisit {s : State} (h : ListLaw s) (a : Nat) : ListLaw (failVisit a s) := by
  unfold Machine.failVisit
  simp only
  split
  · refine ListLaw.tellLoss (h.quiet ?_) a
    exact .of_eq (by simp) (by simp) (by simp)
  · exact h.quiet (.of_eq rfl rfl rfl)

theorem ListLaw.hearStation {s : State} (h : ListLaw s) (a : Nat) : ListLaw (hearStation a s) := by
  unfold Machine.hearStation
  simp only
  split
  · refine ListLaw.tellFinding (h.quiet ?_) a
    exact .of_eq rfl rfl rfl
  · exact h.quiet (.of_eq rfl rfl rfl)

theorem ListLaw.ownAck {s : State} (h : ListLaw s) (a number : Nat) : ListLaw (ownAck a number s) := by
  unfold Machine.ownAck
  split
  · split
    · exact h.quiet (.of_eq rfl rfl rfl)
    · exact h
  · split
    · exact h.quiet (.of_eq rfl rfl rfl)
    · exact h
  · exact h.collectOrder _ number
  all_goals exact h

theorem ListLaw.takeAckAt {s : State} (h : ListLaw s) (finding : Bool) (a : Nat) (m : LineMessage) :
    ListLaw (takeAckAt finding a m s) := by
  unfold Machine.takeAckAt takeAck
  split
  · exact h
  · split
    · split
      · exact h.quiet (.of_eq rfl rfl rfl)
      · exact h.ownAck a _
    · exact h

theorem ListLaw.handReport {s : State} (h : ListLaw s) (a : Nat) (r : Report) : ListLaw (handReport a r s) := by
  unfold Machine.handReport
  simp only
  split
  · exact h
  split
  · exact h.takeSample a _
  split
  · split
    · exact h
    · exact h.quiet (ListQuiet.takeExchange a _ _ s)
  split
  · split
    · exact h
    · exact h.takePulse _ _
  split
  · split
    · exact h
    · exact h.takeOutcome _ _ _ _
  split
  · split
    · exact h
    · exact h.takePlace _ _ _
  split
  · split
    · exact h
    · exact h.quiet (ListQuiet.takeDoffStep _ s)
  split
  · split
    · exact h
    · exact h.quiet (ListQuiet.takeDoffEnd _ s)
  · exact h

theorem ListLaw.handReportAt {s : State} (h : ListLaw s) (finding : Bool) (a : Nat) (r : Report) :
    ListLaw (handReportAt finding a r s) := by
  unfold Machine.handReportAt
  split
  · exact h.quiet (ListQuiet.staleOutcome _ s)
  · exact h.handReport a r

theorem ListQuiet.forwardReport (a : Nat) (r : Report) (s : State) : ListQuiet s (forwardReport a r s) := by
  unfold Machine.forwardReport
  split
  · split <;> exact .of_eq rfl rfl rfl
  · exact .refl s

theorem ListLaw.takeMessage {s : State} (h : ListLaw s) (a : Nat) (m : LineMessage) : ListLaw (takeMessage a m s) := by
  have hacked := (h.hearStation a).takeAckAt (!s.found a) a m
  unfold Machine.takeMessage
  simp only
  split
  · exact hacked
  · refine ListLaw.quiet ?_ (ListQuiet.foldl (fun t r => ListQuiet.forwardReport a r t) _ _)
    refine List.foldlRecOn (motive := ListLaw) _ _ (hacked.quiet ?_) (fun t ht r _ => ht.handReportAt _ a r)
    exact .of_eq rfl rfl rfl

theorem ListLaw.windowCloses {s : State} (h : ListLaw s) : ListLaw (windowCloses s) := by
  unfold Machine.windowCloses
  split
  · refine ListLaw.failVisit (h.quiet ?_) _
    exact .of_eq rfl rfl rfl
  · exact h

theorem ListLaw.takeReply {s : State} (h : ListLaw s) (bytes : List Byte) : ListLaw (takeReply bytes s) := by
  have hended : ListLaw (endVisit s) := h.quiet (.of_eq rfl rfl rfl)
  unfold Machine.takeReply
  split
  · exact h
  · next a _ =>
    split
    · exact h
    · simp only
      split
      · split
        · exact hended.takeMessage a _
        · exact (hended.quiet (ListQuiet.raiseErrors a _)).failVisit a
      · exact (hended.quiet (ListQuiet.raiseErrors a _)).failVisit a

theorem ListLaw.takeStationMessage {s : State} (h : ListLaw s) (bytes : List Byte) :
    ListLaw (takeStationMessage bytes s) := by
  unfold Machine.takeStationMessage
  split
  · exact h
  · have hfirst : ListLaw { s with lc.messageFirst := false } := h.quiet (.of_eq rfl rfl rfl)
    generalize { s with lc.messageFirst := false } = u at hfirst
    unfold endStationMessage
    split
    · split
      · exact (hfirst.takeMessage _ _).quiet (.of_eq rfl rfl rfl)
      · exact hfirst.quiet (ListQuiet.raiseErrors 0 u)
    · exact hfirst.quiet (ListQuiet.raiseErrors 0 u)

theorem ListLaw.sendHalt {s : State} (h : ListLaw s) : ListLaw (sendHalt s) := by
  unfold Machine.sendHalt
  split
  · refine ListLaw.haltCarriage (ListLaw.haltCarriage (h.quiet ?_) .A) .B
    exact .of_eq rfl rfl rfl
  · exact h

theorem ListQuiet.beginVisit (s : State) : ListQuiet s (beginVisit s) := by
  unfold Machine.beginVisit
  split
  · split <;> exact .of_eq rfl rfl rfl
  · exact .refl s

/-! ### The part's own clock and timers -/

theorem ListLaw.windowExpires {s : State} (h : ListLaw s) (n : Nat) : ListLaw (windowExpires n s) := by
  unfold Machine.windowExpires
  split
  · next hr =>
    refine ListLaw.selectFor (h.failedAttempt (.inr ?_)) _
    unfold State.windowRuns at hr
    cases he : s.entry? n with
    | none => simp [he] at hr
    | some e =>
      have hen : e.spindle = n := by simpa using List.find?_some he
      have hst := h.entry_state (List.mem_of_find?_eq_some he)
      simp only [he, Option.any_some, Bool.and_eq_true, beq_iff_eq] at hr
      rwa [hen, hr.1] at hst
  · exact h

theorem ListLaw.orderExpires {s : State} (h : ListLaw s) (side : Side) : ListLaw (orderExpires side s) := by
  unfold Machine.orderExpires
  split
  · exact h.quiet (.of_eq rfl rfl rfl)
  · split
    · exact ListLaw.carriageGoesOut (h.quiet (ListQuiet.modCarriage ⟨rfl, rfl⟩)) side true
    · exact h

theorem ListLaw.failPark {s : State} (h : ListLaw s) (side : Side) : ListLaw (failPark side s) := by
  unfold Machine.failPark
  split
  · exact h
  · exact h.carriageGoesOut side true

theorem ListLaw.parkExpires {s : State} (h : ListLaw s) : ListLaw (parkExpires s) := by
  unfold Machine.parkExpires
  split
  · refine ListLaw.quiet (ListLaw.failPark (ListLaw.failPark (h.quiet ?_) .A) .B) (ListQuiet.parkWait _)
    exact .of_eq rfl rfl rfl
  · exact h

theorem ListQuiet.doffExpires (s : State) : ListQuiet s (doffExpires s) := by
  unfold Machine.doffExpires
  split
  · exact .of_eq rfl rfl rfl
  · split
    · refine ListQuiet.trans (t := { s with df.doffTimer := { left := 0, mode := .stopped } }) (.of_eq rfl rfl rfl) ?_
      simp only
      split
      · exact ListQuiet.enterFaulted 1 _
      · exact ListQuiet.enterFaulted 6 _
      · exact ListQuiet.enterHalted 5 _
      all_goals exact .refl _
    · exact .refl s

theorem ListQuiet.storeEnds (s : State) : ListQuiet s (storeEnds s) := by
  unfold Machine.storeEnds
  split
  · exact .of_eq (by simp) (by simp) (by simp)
  · exact .refl s

theorem ListLaw.settleExpires {s : State} (h : ListLaw s) : ListLaw (settleExpires s) := by
  unfold Machine.settleExpires
  split
  · exact ListLaw.openGateSelect (h.quiet (.of_eq rfl rfl rfl))
  · exact h

theorem ListLaw.reachAge {s : State} (h : ListLaw s) (side : Side) : ListLaw (reachAge side s) := by
  unfold Machine.reachAge
  split
  · exact h.selectFor side
  · exact h

theorem ListQuiet.reachPeriod (s : State) : ListQuiet s (reachPeriod s) := by
  unfold Machine.reachPeriod
  split <;> exact .of_eq rfl rfl rfl

theorem ListQuiet.tickMillisecond (s : State) : ListQuiet s (tickMillisecond s) where
  geometry := rfl
  size := rfl
  spindle _ := Spindle.listQuiet_refl _
  carriage side := by cases side <;> exact ⟨rfl, rfl⟩
  list side := ⟨fun e => { e with window := e.window.map Timer.tick }, by cases side <;> rfl,
    fun _ => ⟨rfl, rfl, rfl, fun _ hw => by simpa using hw⟩⟩

end Sys2Proof.Machine
end

section
/-! SUPPORT. The spindle table over power-on and the warm resets (R23, R24), and the list law there. -/

namespace Sys2Proof.Machine

/-! ### The spindle table -/

theorem getElem?_allSpindles {n : Nat} (h₁ : 1 ≤ n) (h₂ : n ≤ 1920) : allSpindles[n - 1]? = some n := by
  simp only [allSpindles, List.getElem?_map, List.getElem?_range (show n - 1 < 1920 by omega), Option.map_some,
    Nat.sub_add_cancel h₁]

theorem length_allSpindles : allSpindles.length = 1920 := by simp [allSpindles]

/-- A spindle of a table made number by number. -/
theorem spindle_of_map {s : State} {f : Nat → Spindle} (hs : s.spindles = allSpindles.map f) {n : Nat} (h₁ : 1 ≤ n)
    (h₂ : n ≤ 1920) : s.spindle n = f n := by
  have hn : ¬ n = 0 := by omega
  rw [State.spindle, if_neg hn, hs, List.getD_eq_getElem?_getD, List.getElem?_map, getElem?_allSpindles h₁ h₂]
  rfl

/-- The record in the table. -/
theorem getElem?_spindles {s : State} (hsize : s.spindles.length = 1920) {n : Nat} (h₁ : 1 ≤ n) (h₂ : n ≤ 1920) :
    s.spindles[n - 1]? = some (s.spindle n) := by
  have hn : ¬ n = 0 := by omega
  have hlt : n - 1 < s.spindles.length := by omega
  rw [State.spindle, if_neg hn, List.getD_eq_getElem?_getD, List.getElem?_eq_getElem hlt]
  rfl

/-- The hold pending on a spindle's entry (R89). -/
def State.pendingHold (s : State) (n : Nat) : Bool := (s.entry? n).any (fun e => e.holdPending)

/-- A spindle over a warm reset (R24). -/
theorem spindle_warmSpindles {s t : State} (hsize : s.spindles.length = 1920) {q : Profile}
    (ht : t.spindles = warmSpindles q s) {n : Nat} (h₁ : 1 ≤ n) (h₂ : n ≤ 1920) :
    t.spindle n =
      warmSpindle s.dc.frameLength (s.fitted (segmentOf n)) (fittedIn q.segmentsA q.segmentsB (segmentOf n))
        (s.pendingHold n) (s.spindle n) := by
  have hn : ¬ n = 0 := by omega
  rw [State.spindle, if_neg hn, ht, warmSpindles, List.getD_eq_getElem?_getD, List.getElem?_zipWith,
    getElem?_allSpindles h₁ h₂, getElem?_spindles hsize h₁ h₂]
  rfl

theorem length_warmSpindles {s : State} (hsize : s.spindles.length = 1920) (q : Profile) :
    (warmSpindles q s).length = 1920 := by
  rw [warmSpindles, List.length_zipWith, length_allSpindles, hsize, Nat.min_self]

theorem length_freshSpindles (a b : Nat) : (freshSpindles a b).length = 1920 := by
  rw [freshSpindles, List.length_map, length_allSpindles]

/-! What the resets make of the blocks the list law reads. -/

@[simp] theorem powerOnValues_spindles (p : Profile) (src : ProfileSource) (s : State) :
    (powerOnValues p src s).spindles = freshSpindles p.segmentsA p.segmentsB := by simp only [powerOnValues]

@[simp] theorem powerOnValues_pd (p : Profile) (src : ProfileSource) (s : State) :
    (powerOnValues p src s).pd =
      { lists := { a := [], b := [] }, globalHold := false,
        carriages := { a := Carriage.initial, b := Carriage.initial } } := by simp only [powerOnValues]

@[simp] theorem powerOnValues_fitted (p : Profile) (src : ProfileSource) (s : State) (k : Nat) :
    (powerOnValues p src s).fitted k = fittedIn p.segmentsA p.segmentsB k := by simp only [State.fitted, powerOnValues]

theorem spindle_powerOnValues (p : Profile) (src : ProfileSource) (s : State) {n : Nat} (h₁ : 1 ≤ n) (h₂ : n ≤ 1920) :
    (powerOnValues p src s).spindle n =
      if fittedIn p.segmentsA p.segmentsB (segmentOf n) then Spindle.fresh 0 else Spindle.vacant := by
  have hs : (powerOnValues p src s).spindles =
      allSpindles.map (fun n => if fittedIn p.segmentsA p.segmentsB (segmentOf n) then Spindle.fresh 0 else Spindle.vacant) := by
    rw [powerOnValues_spindles, freshSpindles]
  rw [spindle_of_map hs h₁ h₂]

@[simp] theorem loseSupply_spindles (s : State) :
    (loseSupply s).spindles = (powerOnValues Profile.default .default s).spindles := by simp only [loseSupply]

@[simp] theorem loseSupply_pd (s : State) :
    (loseSupply s).pd = (powerOnValues Profile.default .default s).pd := by simp only [loseSupply]

@[simp] theorem loseSupply_inForce (s : State) :
    (loseSupply s).ps.inForce = (powerOnValues Profile.default .default s).ps.inForce := by simp only [loseSupply]

@[simp] theorem warmReset_spindles (kind : ResetKind) (s : State) :
    (warmReset kind s).spindles = warmSpindles s.profileAtWarm s := by simp only [warmReset]

@[simp] theorem warmReset_lists (kind : ResetKind) (s : State) :
    (warmReset kind s).pd.lists = { a := [], b := [] } := by simp only [warmReset]

@[simp] theorem warmReset_carriage (kind : ResetKind) (s : State) (side : Side) :
    (warmReset kind s).carriage side = warmCarriage (s.carriage side) := by
  cases side <;> simp only [warmReset, State.carriage, PerSide.get]

@[simp] theorem warmReset_fitted (kind : ResetKind) (s : State) (k : Nat) :
    (warmReset kind s).fitted k = fittedIn s.profileAtWarm.segmentsA s.profileAtWarm.segmentsB k := by
  simp only [State.fitted, warmReset]

/-! ### The law at a reset -/

/-- With empty lists and both carriages OUT the law is about each record alone. -/
theorem ListLaw.of_reset {s : State} (hsize : s.spindles.length = 1920) (hlists : s.pd.lists = { a := [], b := [] })
    (hout : ∀ side, (s.carriage side).state = .out ∧ (s.carriage side).slot = none)
    (hrec : ∀ n, 1 ≤ n → n ≤ 1920 →
      ((s.spindle n).state = .vacant ↔ s.fitted (segmentOf n) = false) ∧
      (s.spindle n).state.isDown = (s.spindle n).breakMark.isSome ∧
      (¬ (s.spindle n).state = .down ∧ ¬ (s.spindle n).state = .servicing ∧ ¬ (s.spindle n).state = .verifying) ∧
      (s.spindle n).listStatus = .none) : ListLaw s := by
  have hnil (side : Side) : s.list side = [] := by cases side <;> simp [State.list, hlists, PerSide.get]
  have hl (n : Nat) : s.listed n = false := by simp [not_listed_iff, hnil]
  refine ListLaw.of_sides hsize (fun side => ?_) (by simp [hnil]) (by simp [hnil]) (fun n hn => ?_)
  · unfold Carriage.slotAgrees
    rw [(hout side).1, (hout side).2]
    trivial
  · obtain ⟨h₁, h₂⟩ := mem_allSpindles.mp hn
    obtain ⟨hv, hb, ⟨hd, hs, hf⟩, hst⟩ := hrec n h₁ h₂
    unfold State.recordAgrees
    simp [hl, hst, hd, hs, hf, hb, hv]

theorem ListLaw.powerOnValues (p : Profile) (src : ProfileSource) (s : State) : ListLaw (powerOnValues p src s) := by
  refine ListLaw.of_reset (by simp [length_freshSpindles]) (by simp) ?_ (fun n h₁ h₂ => ?_)
  · rintro (_ | _) <;> simp [State.carriage, PerSide.get, Carriage.initial]
  · rw [spindle_powerOnValues p src s h₁ h₂, powerOnValues_fitted]
    split
    · next hf => simp [hf, Spindle.fresh, SpindleState.isDown, Spindle.vacant]
    · next hf => simp [hf, SpindleState.isDown, Spindle.vacant]

theorem ListLaw.powerUp (s : State) : ListLaw (powerUp s) := by
  unfold Machine.powerUp
  refine ListLaw.quiet ?_ (ListQuiet.raiseEvent _ _ _)
  split <;> exact ListLaw.powerOnValues _ _ _

theorem ListLaw.loseSupply (s : State) : ListLaw (loseSupply s) := by
  have hon := ListLaw.powerOnValues Profile.default .default s
  have hsame : ListQuiet (Machine.powerOnValues Profile.default .default s) (Machine.loseSupply s) :=
    .of_eq (loseSupply_inForce s) (loseSupply_spindles s) (loseSupply_pd s)
  exact hon.quiet hsame

/-- What a warm reset makes of a record that agreed with its geometry and its break mark. -/
theorem warmSpindle_agrees (len : Nat) (was now hold : Bool) {p : Spindle} (hv : p.state = .vacant ↔ was = false)
    (hb : p.state.isDown = p.breakMark.isSome) :
    ((warmSpindle len was now hold p).state = .vacant ↔ now = false) ∧
    (warmSpindle len was now hold p).state.isDown = (warmSpindle len was now hold p).breakMark.isSome ∧
    (¬ (warmSpindle len was now hold p).state = .down ∧ ¬ (warmSpindle len was now hold p).state = .servicing ∧
      ¬ (warmSpindle len was now hold p).state = .verifying) ∧
    (warmSpindle len was now hold p).listStatus = .none := by
  cases now with
  | false => simp [warmSpindle, Spindle.vacant, SpindleState.isDown]
  | true =>
    cases was with
    | false => simp [warmSpindle, Spindle.fresh, SpindleState.isDown, Spindle.vacant]
    | true => cases hst : p.state <;> simp [warmSpindle, hst, SpindleState.isDown] at hv hb ⊢ <;> exact hb

theorem ListLaw.warmReset {s : State} (h : ListLaw s) (kind : ResetKind) : ListLaw (warmReset kind s) := by
  refine ListLaw.of_reset (by rw [warmReset_spindles, length_warmSpindles h.1]) (warmReset_lists kind s)
    (fun side => by simp [warmCarriage]) (fun n h₁ h₂ => ?_)
  rw [spindle_warmSpindles h.1 (warmReset_spindles kind s) h₁ h₂, warmReset_fitted]
  obtain ⟨hv, hb, -⟩ := h.records n (mem_allSpindles.mpr ⟨h₁, h₂⟩)
  exact warmSpindle_agrees _ _ _ _ hv hb

theorem queuePending_spindles (s : State) : (queuePending s).spindles = s.spindles := by
  unfold queuePending
  refine List.foldlRecOn (motive := fun t => State.spindles t = s.spindles) _ _ rfl (fun t ht c _ => ?_)
  split <;> simp [ht]

theorem ListQuiet.queuePending (s : State) : ListQuiet s (queuePending s) := by
  refine ListQuiet.foldl (fun t c => ?_) _ s
  split
  · exact .of_eq (by simp) (by simp) (by simp)
  · exact .refl t

theorem ListQuiet.clearLinkQueues (s : State) : ListQuiet s
    { s with ml.throughDown := [], ml.throughUp := [], ml.own := [], ml.upTx := none, ml.downTx := none,
             ml.lastServed := .own } := .of_eq rfl rfl rfl

theorem ListLaw.pinReset {s : State} (h : ListLaw s) : ListLaw (pinReset s) := by
  have hwarm := h.warmReset .pin
  unfold Machine.pinReset
  exact ((hwarm.quiet (ListQuiet.clearLinkQueues _)).quiet (ListQuiet.queuePending _)).quiet (ListQuiet.raiseEvent _ _ _)

theorem ListLaw.linkReset {s : State} (h : ListLaw s) : ListLaw (linkReset s) := by
  have hwarm := h.warmReset .link
  unfold Machine.linkReset
  exact hwarm.quiet (ListQuiet.raiseEvent _ _ _)

end Sys2Proof.Machine
end

section
/-! SUPPORT. Requests keep what their verdicts' effects keep (R194, R196). -/

namespace Sys2Proof.Machine

/-- Every verdict's effect keeps `P`, on the state judged with the mill link changed by the answer. -/
def JudgeKeeps (P : State → Prop) (judge : State → Verdict) : Prop :=
  ∀ (s : State) (m : MillLink), P s → P ((judge s).effect { s with ml := m })

section
variable {P : State → Prop}

/-- A request that is routed and taken keeps what changes of the mill link and its verdict's effect keep. -/
theorem routeUp_keeps (hml : ∀ s m, P s → P { s with ml := m }) {judge : State → Verdict} (hj : JudgeKeeps P judge)
    (f : RawFrame) (h : ReqFrame) (code : Nat) {s : State} (hs : P s) : P (routeUp f (takeRequest h code judge) s) := by
  have htake (t : State) (ht : P t) : P (takeRequest h code judge t) := by
    unfold takeRequest
    split
    · simp only
      split
      · exact hj t _ ht
      · exact hj t _ ht
    · exact hml t _ ht
  have hjoin : P (joinThroughDown f s) := by rw [joinThroughDown_eq]; exact hml s _ hs
  unfold routeUp
  split
  · exact htake s hs
  · split
    · exact htake _ hjoin
    · exact hjoin

theorem plainRequest_keeps (hml : ∀ s m, P s → P { s with ml := m }) {judge : State → Verdict} (hj : JudgeKeeps P judge)
    (h : ReqFrame) (code : Nat) {s : State} (hs : P s) : P (plainRequest h code judge s) :=
  routeUp_keeps hml hj _ h code hs

theorem argRequest_keeps (hml : ∀ s m, P s → P { s with ml := m }) {judge : State → Verdict} (hj : JudgeKeeps P judge)
    (h : ReqFrame) (code : Nat) {s : State} (hs : P s) : P (argRequest h code judge s) := by
  refine plainRequest_keeps hml (fun t m ht => ?_) h code hs
  split
  · exact hml t m ht
  · exact hj t m ht

theorem unlessDoffing_keeps (hml : ∀ s m, P s → P { s with ml := m }) {judge : State → Verdict} (hj : JudgeKeeps P judge) :
    JudgeKeeps P (unlessDoffing judge) := by
  intro s m hs
  unfold unlessDoffing
  split
  · exact hml s m hs
  · exact hj s m hs

theorem unlessStoring_keeps (hml : ∀ s m, P s → P { s with ml := m }) {judge : State → Verdict} (hj : JudgeKeeps P judge) :
    JudgeKeeps P (unlessStoring judge) := by
  intro s m hs
  unfold unlessStoring
  split
  · exact hml s m hs
  · exact hj s m hs

theorem onSupply_keeps {f : State → State} {s t : State} (hs : P s) (hf : P (f s)) (h : onSupply f s = .next t) : P t := by
  unfold onSupply at h
  cases h
  split <;> assumption

end

end Sys2Proof.Machine
end

section
/-! SUPPORT. Every request's verdict and every command keep the list law, and with them every step. -/

namespace Sys2Proof.Machine

/-! ### Verdicts -/

theorem ListLaw.ml (s : State) (m : MillLink) (h : ListLaw s) : ListLaw { s with ml := m } := h.quiet (.of_eq rfl rfl rfl)

/-- A verdict whose effect the law does not see. -/
theorem JudgeKeeps.quiet {judge : State → Verdict} (h : ∀ s t, ListQuiet t ((judge s).effect t)) : JudgeKeeps ListLaw judge :=
  fun s m hs => (hs.ml s m).quiet (h s _)

theorem judgeReadSpindles_keeps (start count : Nat) : JudgeKeeps ListLaw (judgeReadSpindles start count) := by
  refine .quiet (fun s t => ?_)
  unfold judgeReadSpindles
  split <;> exact .refl t

theorem judgeServiceOut_keeps (n : Nat) : JudgeKeeps ListLaw (judgeServiceOut n) := by
  intro s m hs
  unfold judgeServiceOut
  split
  · exact (hs.ml s m).serviceOutOne n
  · exact hs.ml s m

theorem judgeServiceOutSegment_keeps (k : Nat) : JudgeKeeps ListLaw (judgeServiceOutSegment k) := by
  intro s m hs
  unfold judgeServiceOutSegment
  split
  · exact (hs.ml s m).serviceOutAll k
  · exact hs.ml s m

theorem judgeServiceIn_keeps (t : Target) : JudgeKeeps ListLaw (judgeServiceIn t) := by
  intro s m hs
  unfold judgeServiceIn
  split
  · cases t with
    | spindle n =>
      simp only
      split
      · exact (hs.ml s m).bringIn n
      · exact hs.ml s m
    | segment k =>
      simp only [perform]
      exact forEach_keeps (f := bringIn) (fun n _ hu => hu.bringIn n) (segmentSpindles k) (hs.ml s m)
  · exact hs.ml s m

theorem judgeReadSegment_keeps (k : Nat) : JudgeKeeps ListLaw (judgeReadSegment k) := by
  refine .quiet (fun s t => ?_)
  unfold judgeReadSegment
  split <;> exact .refl t

theorem judgeHold_keeps (n : Nat) : JudgeKeeps ListLaw (judgeHold n) := by
  intro s m hs
  unfold judgeHold
  split
  · exact (hs.ml s m).holdOne n
  · exact hs.ml s m

theorem judgeHoldSegment_keeps (k : Nat) : JudgeKeeps ListLaw (judgeHoldSegment k) := by
  intro s m hs
  unfold judgeHoldSegment
  split
  · exact (hs.ml s m).holdAllOf k
  · exact hs.ml s m

theorem judgeRelease_keeps (t : Target) : JudgeKeeps ListLaw (judgeRelease t) := by
  intro s m hs
  unfold judgeRelease
  cases t with
  | spindle n =>
    refine unlessDoffing_keeps ListLaw.ml (fun u x hu => ?_) s m hs
    split
    · exact (hu.ml u x).releaseTarget _
    · exact hu.ml u x
  | segment k =>
    simp only
    split
    · exact (hs.ml s m).releaseTarget _
    · exact hs.ml s m

theorem judgeRogueRelease_keeps (n : Nat) : JudgeKeeps ListLaw (judgeRogueRelease n) := by
  intro s m hs
  unfold judgeRogueRelease
  split
  · split
    · next hst => exact ListLaw.releaseRogue (s := { s with ml := m }) hst (hs.ml s m)
    · exact hs.ml s m
  · exact hs.ml s m

theorem onSide_keeps {side : Option Side} {judge : State → Side → Verdict} (h : ∀ x, JudgeKeeps ListLaw (fun s => judge s x)) :
    JudgeKeeps ListLaw (fun s => onSide side (judge s)) := by
  intro s m hs
  unfold onSide
  split
  · exact h _ s m hs
  · exact hs.ml s m

theorem orderOut_keeps (side : Side) : JudgeKeeps ListLaw (fun _ => perform (orderOut side)) :=
  fun s m hs => ((hs.ml s m).quiet (ListQuiet.modCarriage ⟨rfl, rfl⟩)).carriageGoesOut side false

theorem judgeRestore_keeps (side : Side) : JudgeKeeps ListLaw (fun s => judgeRestore s side) := by
  intro s m hs
  simp only [judgeRestore]
  split
  · next hc => exact ListLaw.bringBack (s := { s with ml := m }) (hs.ml s m) hc.1
  · exact hs.ml s m

theorem judgeDoffNow_keeps : JudgeKeeps ListLaw judgeDoffNow := by
  intro s m hs
  unfold judgeDoffNow
  split
  · exact (hs.ml s m).enterDue 2
  · exact hs.ml s m

theorem ListLaw.setInhibit {s : State} (h : ListLaw s) : ListLaw (setInhibit s) := by
  have hset : ListLaw { s with df.inhibit := true } := h.quiet (.of_eq rfl rfl rfl)
  unfold Machine.setInhibit
  simp only
  split
  · exact (hset.quiet (ListQuiet.stopParkTimer _)).enterSpinning
  · exact hset

theorem ListLaw.clearInhibit {s : State} (h : ListLaw s) : ListLaw (clearInhibit s) := by
  have hset : ListLaw { s with df.inhibit := false } := h.quiet (.of_eq rfl rfl rfl)
  unfold Machine.clearInhibit
  simp only
  split
  · exact hset.dueTest
  · split
    · split
      · exact hset.quiet (ListQuiet.enterDoffing _)
      · exact hset.quiet (ListQuiet.enterStopping _)
    · exact hset

theorem judgeSuspend_keeps : JudgeKeeps ListLaw judgeSuspend := by
  refine .quiet (fun s t => ?_)
  unfold judgeSuspend
  split <;> exact .of_eq rfl rfl rfl

theorem judgeResume_keeps : JudgeKeeps ListLaw judgeResume := by
  refine .quiet (fun s t => ?_)
  unfold judgeResume
  split <;> exact .of_eq rfl rfl rfl

theorem judgeRetry_keeps : JudgeKeeps ListLaw judgeRetry := by
  refine .quiet (fun s t => ?_)
  unfold judgeRetry
  split <;> exact .of_eq rfl rfl rfl

theorem judgeConfirm_keeps : JudgeKeeps ListLaw judgeConfirm := by
  refine .quiet (fun s t => ?_)
  unfold judgeConfirm
  split
  · exact ListQuiet.completeDoff 1 t
  · exact .refl t

theorem ListQuiet.haltFrame (s : State) : ListQuiet s (haltFrame s) := by
  have q : ListQuiet s (awaitHalt s) := .of_eq rfl rfl rfl
  refine q.trans ?_
  unfold Machine.haltFrame
  simp only
  split
  · exact .of_eq rfl rfl rfl
  · exact (ListQuiet.stopParkTimer _).trans (.of_eq rfl rfl rfl)
  all_goals exact .of_eq rfl rfl rfl

theorem judgeRun_keeps : JudgeKeeps ListLaw judgeRun := by
  intro s m hs
  unfold judgeRun
  split
  · show ListLaw (runHalted _)
    unfold runHalted
    split
    · exact (hs.ml s m).enterSpinning
    · exact (hs.ml s m).quiet (.of_eq rfl rfl rfl)
  · split
    · exact (hs.ml s m).quiet (.of_eq rfl rfl rfl)
    · exact hs.ml s m

theorem judgeLoadLots_keeps (items : List LotItem) : JudgeKeeps ListLaw (judgeLoadLots items) := by
  refine .quiet (fun s t => ?_)
  unfold judgeLoadLots
  split <;> exact .of_eq rfl rfl rfl

theorem judgeRovingSet_keeps (t : Target) (fill : FillArg) : JudgeKeeps ListLaw (judgeRovingSet t fill) := by
  refine .quiet (fun s u => ?_)
  unfold judgeRovingSet
  split
  · split
    · split
      · exact ListQuiet.setRoving t _ u
      · exact .refl u
    · exact ListQuiet.setRoving t _ u
  · exact .refl u

theorem ListQuiet.closeShift (number : Nat) (s : State) : ListQuiet s (closeShift number s) := by
  have q₁ : ListQuiet s (splitStopTime s) := by
    unfold splitStopTime
    split
    · exact (ListQuiet.chargeStopTime s).trans (.of_eq rfl rfl rfl)
    · exact .refl s
  have q₂ : ListQuiet (splitStopTime s)
      (Machine.modAllSpindles (fun p => { p with lostShift := 0, breaks := 0 }) (splitStopTime s)) :=
    ListQuiet.modAllSpindles (fun _ => ⟨rfl, rfl, rfl, id⟩)
  refine ListQuiet.trans (q₁.trans (q₂.trans ?_)) (ListQuiet.raiseEvent _ _ _)
  exact .of_eq rfl rfl rfl

theorem ListQuiet.shiftCloseEffect (number : Nat) (s : State) : ListQuiet s (shiftCloseEffect number s) := by
  unfold Machine.shiftCloseEffect
  split
  · exact .refl s
  · exact ListQuiet.closeShift number s

theorem judgeReadShift_keeps (index : Nat) : JudgeKeeps ListLaw (judgeReadShift index) := by
  refine .quiet (fun s t => ?_)
  unfold judgeReadShift
  split
  · exact .refl t
  · split <;> exact .refl t

theorem judgeLoadPoll_keeps (addresses : List Nat) : JudgeKeeps ListLaw (judgeLoadPoll addresses) := by
  refine .quiet (fun s t => ?_)
  unfold judgeLoadPoll
  split <;> exact .of_eq rfl rfl rfl

theorem judgeMailboxClear_keeps (a : Nat) : JudgeKeeps ListLaw (judgeMailboxClear a) := by
  refine .quiet (fun s t => ?_)
  unfold judgeMailboxClear
  split <;> exact .of_eq rfl rfl rfl

theorem judgeStationOrder_keeps (raw : List Byte) : JudgeKeeps ListLaw (judgeStationOrder raw) := by
  refine .quiet (fun s t => ?_)
  unfold judgeStationOrder
  split
  · exact .refl t
  · split
    · exact .refl t
    · split
      · exact .refl t
      · simp only
        split
        · exact .refl t
        · split
          · exact .of_eq (by simp [overrunMail]) (by simp [overrunMail]) (by simp [overrunMail])
          · exact .of_eq rfl rfl rfl

theorem ListLaw.loadRecipe {s : State} (items : List RecipeItem) (h : ListLaw s) : ListLaw (loadRecipe items s) := by
  have hset : ListLaw { s with ml.recipe := items.foldl Recipe.write s.ml.recipe } := h.quiet (.of_eq rfl rfl rfl)
  have hsettle (old new : Nat) (u : State) (hu : ListLaw u) : ListLaw (resettle old new u) := by
    unfold resettle
    split
    · simp only
      split
      · refine ListLaw.quiet (hu.quiet ?_) (ListQuiet.openGate _)
        exact .of_eq rfl rfl rfl
      · exact hu.quiet (.of_eq rfl rfl rfl)
    · exact hu
  unfold Machine.loadRecipe
  simp only
  refine ListLaw.selectBoth (ListLaw.quiet (s := ite _ _ _) ?_ (.of_eq rfl rfl rfl))
  split
  · exact (hsettle _ _ _ hset).dueTest
  · exact hsettle _ _ _ hset

theorem judgeLoadRecipe_keeps (items : List RecipeItem) : JudgeKeeps ListLaw (judgeLoadRecipe items) := by
  intro s m hs
  unfold judgeLoadRecipe
  split
  · exact (hs.ml s m).loadRecipe items
  · exact hs.ml s m

theorem judgeLoadPass_keeps (items : List PassItem) : JudgeKeeps ListLaw (judgeLoadPass items) := by
  refine .quiet (fun s t => ?_)
  unfold judgeLoadPass
  split <;> exact .of_eq rfl rfl rfl

theorem judgeSetMask_keeps (masks : List Bool) : JudgeKeeps ListLaw (judgeSetMask masks) := by
  refine .quiet (fun s t => ?_)
  unfold judgeSetMask
  split
  · exact .refl t
  · refine ListQuiet.foldl (fun u c => ?_) _ t
    unfold setMaskBit
    simp only
    split <;> exact .of_eq (by simp) (by simp) (by simp)

theorem judgeProfileWrite_keeps (items : List ProfileItem) : JudgeKeeps ListLaw (judgeProfileWrite items) := by
  refine .quiet (fun s t => ?_)
  unfold judgeProfileWrite
  split <;> exact .of_eq rfl rfl rfl

theorem judgeReset_keeps : JudgeKeeps ListLaw judgeReset := by
  intro s m hs
  unfold judgeReset
  split
  · exact (hs.ml s m).linkReset
  · exact hs.ml s m

/-- A request that is always taken, with an effect that the law does not see. -/
theorem JudgeKeeps.of_quiet {a : Answer} {d : State → ReplyData} {f : State → State} (h : ∀ t, ListQuiet t (f t)) :
    JudgeKeeps ListLaw (fun s => { answer := a, data := d s, effect := f }) := .quiet (fun _ t => h t)

/-! ### Commands with an effect that the law does not see -/

namespace ListQuiet

theorem modPortCounts (f : PortCounts → PortCounts) (s : State) : ListQuiet s (Machine.modPortCounts f s) := .of_eq rfl rfl rfl

theorem joinThroughDown (f : RawFrame) (s : State) : ListQuiet s (Machine.joinThroughDown f s) := by
  rw [joinThroughDown_eq]
  exact .of_eq rfl rfl rfl

theorem joinThroughUp (f : RawFrame) (s : State) : ListQuiet s (Machine.joinThroughUp f s) := by
  unfold Machine.joinThroughUp
  split <;> exact .of_eq rfl rfl rfl

theorem startUp (s : State) : ListQuiet s (Machine.startUp s) := by
  unfold Machine.startUp beginUp
  split
  · split
    · exact .of_eq rfl rfl rfl
    · unfold refillOwn
      split
      · exact .of_eq (by simp) (by simp) (by simp)
      · exact .of_eq rfl rfl rfl
    · exact .refl s
  · exact .refl s

theorem finishUp (s : State) : ListQuiet s (Machine.finishUp s) := by
  unfold Machine.finishUp
  split <;> exact .of_eq rfl rfl rfl

theorem startDown (s : State) : ListQuiet s (Machine.startDown s) := by
  unfold Machine.startDown
  split
  · split <;> exact .of_eq rfl rfl rfl
  · exact .refl s

theorem countBad (port : Port) (bytes : List Byte) (s : State) : ListQuiet s (Machine.countBad port bytes s) := by
  unfold Machine.countBad
  split
  · exact .refl s
  · exact .modPortCounts _ s

theorem countMisdirected (f : RawFrame) (s : State) : ListQuiet s (routeUp f Machine.countMisdirected s) := by
  unfold routeUp Machine.countMisdirected
  split
  · exact .modPortCounts _ s
  · split
    · exact (joinThroughDown f s).trans (.modPortCounts _ _)
    · exact joinThroughDown f s

theorem loseUpLink (s : State) : ListQuiet s (Machine.loseUpLink s) := by
  unfold Machine.loseUpLink
  split <;> exact .of_eq rfl rfl rfl

theorem setUpLink (s : State) : ListQuiet s { s with ml.upLink := true } := .of_eq rfl rfl rfl

theorem endDown (s : State) : ListQuiet s { s with ml.downTx := none } := .of_eq rfl rfl rfl

theorem setConnected (s : State) : ListQuiet s { s with ml.downConnected := true } := .of_eq rfl rfl rfl

theorem clearEvent (c : Nat) (s : State) : ListQuiet s (Machine.clearEvent c s) := .of_eq rfl rfl rfl

theorem setBusy (s : State) : ListQuiet s { s with ps.busy := true } := .of_eq rfl rfl rfl

theorem arm (s : State) : ListQuiet s { s with ml.resetArm := true } := .of_eq rfl rfl rfl

theorem askForecast (s : State) : ListQuiet s (Machine.askForecast s) := .of_eq rfl rfl rfl

theorem awaitForecast (h : ReqFrame) (s : State) : ListQuiet s (Machine.awaitForecast h s) := by
  unfold Machine.awaitForecast
  split
  · exact takePasses _ s
  · exact .refl s

theorem clearErrors (s : State) : ListQuiet s (Machine.clearErrors s) := .of_eq rfl rfl rfl

end ListQuiet

theorem judgeStatus_keeps (clear : Bool) (d : State → ReplyData) :
    JudgeKeeps ListLaw (fun s =>
      { answer := .done, data := d s, effect := if clear then modPortCounts (fun _ => PortCounts.zero) else id }) := by
  refine .quiet (fun s t => ?_)
  cases clear
  · exact .refl t
  · exact .modPortCounts (fun _ => PortCounts.zero) t

theorem judgeReadStations_keeps (clear : Bool) (d : State → ReplyData) :
    JudgeKeeps ListLaw (fun s => { answer := .done, data := d s, effect := if clear then clearErrors else id }) := by
  refine .quiet (fun s t => ?_)
  cases clear
  · exact .refl t
  · exact .clearErrors t

/-! ### Commands -/

/-- Every command keeps the list law. -/
theorem ListLaw.exec {s t : State} (h : ListLaw s) (i : Instr) (hx : exec i s = .next t) : ListLaw t := by
  have event {f : State → State} (hf : ListLaw (f s)) (he : onSupply f s = .next t) : ListLaw t := onSupply_keeps h hf he
  have unseen {f : State → State} (hf : ListQuiet s (f s)) (he : onSupply f s = .next t) : ListLaw t := event (h.quiet hf) he
  have plain {judge : State → Verdict} (hj : JudgeKeeps ListLaw judge) {r : ReqFrame} {code : Nat}
      (he : onSupply (plainRequest r code judge) s = .next t) : ListLaw t :=
    onSupply_keeps h (plainRequest_keeps ListLaw.ml hj r code h) he
  have args {judge : State → Verdict} (hj : JudgeKeeps ListLaw judge) {r : ReqFrame} {code : Nat}
      (he : onSupply (argRequest r code judge) s = .next t) : ListLaw t :=
    onSupply_keeps h (argRequest_keeps ListLaw.ml hj r code h) he
  have read {d : State → ReplyData} : JudgeKeeps ListLaw (fun u => answerWith (d u)) := .of_quiet (fun u => .refl u)
  cases i with
  | powerOn => cases hx; exact .powerUp _
  | pinReset => exact event h.pinReset hx
  | runClockTick => exact unseen (.of_eq rfl rfl rfl) hx
  | ageLimitReached side => exact event (h.reachAge side) hx
  | forecastPeriodExpiry => exact unseen (.reachPeriod s) hx
  | fullPass => exact unseen (.takeDue _ s) hx
  | segmentPass k => exact unseen (.takeDue _ s) hx
  | settleTimerExpiry => exact event h.settleExpires hx
  | verifyWindowExpiry n => exact event (h.windowExpires n) hx
  | orderTimerExpiry side => exact event (h.orderExpires side) hx
  | parkTimerExpiry => exact event h.parkExpires hx
  | doffTimerExpiry => exact unseen (.doffExpires s) hx
  | storeComplete => exact unseen (.storeEnds s) hx
  | poll => exact unseen (.beginVisit s) hx
  | replyWindowExpiry => exact event h.windowCloses hx
  | reply bytes => exact event (h.takeReply bytes) hx
  | stationMessage bytes => exact event (h.takeStationMessage bytes) hx
  | halt => exact event h.sendHalt hx
  | upTransmitBegin => exact unseen (.startUp s) hx
  | upTransmitEnd => exact unseen (.finishUp s) hx
  | downTransmitBegin => exact unseen (.startDown s) hx
  | downTransmitEnd => exact unseen (f := fun u => { u with ml.downTx := none }) (.endDown s) hx
  | downConnected => exact unseen (f := fun u => { u with ml.downConnected := true }) (.setConnected s) hx
  | downDisconnected => exact unseen (.of_eq rfl rfl rfl) hx
  | badFrame port bytes => exact unseen (.countBad port bytes s) hx
  | throughDownFrame f =>
    simp only [Machine.exec, execThroughDownFrame] at hx
    refine unseen ?_ hx
    split
    · exact .refl s
    · exact .joinThroughDown f s
  | throughUpFrame f => exact unseen (.joinThroughUp f s) hx
  | misdirectedFrame f =>
    simp only [Machine.exec, execMisdirectedFrame] at hx
    refine unseen ?_ hx
    split
    · exact .refl s
    · exact .countMisdirected f s
  | unknownRequest r code =>
    simp only [Machine.exec, execUnknownRequest] at hx
    refine event ?_ hx
    split
    · exact h
    · exact plainRequest_keeps ListLaw.ml (.quiet (fun _ t => .refl t)) r code h
  | stationOrder r => exact event (routeUp_keeps ListLaw.ml (judgeStationOrder_keeps _) _ r _ h) hx
  | status r clear => exact plain (judgeStatus_keeps clear _) hx
  | loadRecipe r items => exact args (judgeLoadRecipe_keeps items) hx
  | readRecipe r => exact plain read hx
  | loadPass r items => exact args (judgeLoadPass_keeps items) hx
  | readPass r => exact plain read hx
  | setMask r masks => exact args (judgeSetMask_keeps masks) hx
  | readEvents r => exact plain read hx
  | clearEvents r classes => exact args (.of_quiet (fun u => .forEach .clearEvent classes u)) hx
  | profileWrite r items => exact args (unlessStoring_keeps ListLaw.ml (judgeProfileWrite_keeps items)) hx
  | profileStore r => exact plain (unlessStoring_keeps ListLaw.ml (.of_quiet .setBusy)) hx
  | readProfile r => exact plain (unlessStoring_keeps ListLaw.ml read) hx
  | resetArm r => exact plain (.of_quiet .arm) hx
  | reset r => exact plain judgeReset_keeps hx
  | readSpindles r start count => exact args (judgeReadSpindles_keeps start count) hx
  | serviceOut r n => exact args (unlessDoffing_keeps ListLaw.ml (judgeServiceOut_keeps n)) hx
  | serviceOutSegment r k => exact args (unlessDoffing_keeps ListLaw.ml (judgeServiceOutSegment_keeps k)) hx
  | serviceIn r target => exact args (unlessDoffing_keeps ListLaw.ml (judgeServiceIn_keeps target)) hx
  | readSegment r k => exact args (judgeReadSegment_keeps k) hx
  | readDelivery r => exact plain read hx
  | hold r n => exact args (unlessDoffing_keeps ListLaw.ml (judgeHold_keeps n)) hx
  | holdSegment r k => exact args (judgeHoldSegment_keeps k) hx
  | release r target => exact args (judgeRelease_keeps target) hx
  | holdAll r => exact plain (.of_quiet (fun u => .globalHold true u)) hx
  | releaseAll r => exact plain (fun u m hu => (hu.ml u m).clearHolds) hx
  | rogueRelease r n => exact args (unlessDoffing_keeps ListLaw.ml (judgeRogueRelease_keeps n)) hx
  | readList r side => exact args (onSide_keeps (fun _ => read)) hx
  | carriageOut r side => exact args (onSide_keeps orderOut_keeps) hx
  | carriageRestore r side => exact args (onSide_keeps judgeRestore_keeps) hx
  | readCarriage r side => exact args (onSide_keeps (fun _ => read)) hx
  | doffNow r => exact plain judgeDoffNow_keeps hx
  | doffInhibit r => exact plain (fun u m hu => (hu.ml u m).setInhibit) hx
  | doffPermit r => exact plain (fun u m hu => (hu.ml u m).clearInhibit) hx
  | doffSuspend r => exact plain judgeSuspend_keeps hx
  | doffResume r => exact plain judgeResume_keeps hx
  | doffRetry r => exact plain judgeRetry_keeps hx
  | doffConfirm r => exact plain judgeConfirm_keeps hx
  | frameHalt r => exact plain (.of_quiet (fun u => .haltFrame u)) hx
  | frameRun r => exact plain judgeRun_keeps hx
  | readDoff r => exact plain read hx
  | loadLots r items => exact args (judgeLoadLots_keeps items) hx
  | readLots r => exact plain read hx
  | rovingSet r target fill => exact args (unlessDoffing_keeps ListLaw.ml (judgeRovingSet_keeps target fill)) hx
  | readRoving r =>
    simp only [Machine.exec, execReadRoving] at hx
    refine event ?_ hx
    exact plainRequest_keeps ListLaw.ml read r 0x43 (h.quiet (.awaitForecast r s))
  | forecastNow r => exact plain (.of_quiet .askForecast) hx
  | shiftClose r number => exact args (.of_quiet (fun u => .shiftCloseEffect number u)) hx
  | readShift r index => exact args (judgeReadShift_keeps index) hx
  | loadPoll r addresses => exact args (judgeLoadPoll_keeps addresses) hx
  | readPoll r => exact plain read hx
  | readStations r clear => exact plain (judgeReadStations_keeps clear _) hx
  | mailboxClear r a => exact args (judgeMailboxClear_keeps a) hx
  | upLinkLost => exact unseen (.loseUpLink s) hx
  | upLinkRestored => exact unseen (f := fun u => { u with ml.upLink := true }) (.setUpLink s) hx
  | powerLoss => exact event (.loseSupply s) hx

/-- Every step keeps the list law. -/
theorem ListLaw.step {s t : State} (h : ListLaw s) (hx : step s = .next t) : ListLaw t := by
  unfold Machine.step at hx
  split at hx
  · next i rest _ =>
    have hrest : ListQuiet s { s with pending := rest } := .of_eq rfl rfl rfl
    exact (h.quiet hrest).exec i hx
  · cases hx
    exact h.quiet (ListQuiet.tickMillisecond s)

end Sys2Proof.Machine
end

section
/-! SETTLED. The list law is an invariant (R4, R5, R10, R67, R91, R92). -/

namespace Sys2Proof.Machine

/-- Settles O56: the law is kept as a whole by every operation (`ListLaw.exec`, by the command), operations that
change the list, the records or the slots by their own rules and all others by `ListQuiet`. -/
theorem everyStepKeepsTheListLaw : Obligations.EveryStepKeepsTheListLaw := by
  unfold Obligations.EveryStepKeepsTheListLaw
  exact fun _ _ h hx => h.step hx

end Sys2Proof.Machine
end

section
/-! SUPPORT. A request that is taken, by its verdict (R194, R196, R197). -/

namespace Sys2Proof.Machine

/-! ### The state judged -/

section
variable (s : State) (f : RawFrame) (h : ReqFrame)

@[simp] theorem judgedAt_spindles : (s.judgedAt f h).spindles = s.spindles := by rw [judgedAt_eq]
@[simp] theorem judgedAt_ps : (s.judgedAt f h).ps = s.ps := by rw [judgedAt_eq]
@[simp] theorem judgedAt_dc : (s.judgedAt f h).dc = s.dc := by rw [judgedAt_eq]
@[simp] theorem judgedAt_si : (s.judgedAt f h).si = s.si := by rw [judgedAt_eq]
@[simp] theorem judgedAt_df : (s.judgedAt f h).df = s.df := by rw [judgedAt_eq]
@[simp] theorem judgedAt_sa : (s.judgedAt f h).sa = s.sa := by rw [judgedAt_eq]
@[simp] theorem judgedAt_ml_recipe : (s.judgedAt f h).ml.recipe = s.ml.recipe := by rw [judgedAt_eq]
@[simp] theorem judgedAt_ml_resetArm : (s.judgedAt f h).ml.resetArm = s.ml.resetArm := by rw [judgedAt_eq]

@[simp] theorem judgedAt_spindle (n : Nat) : (s.judgedAt f h).spindle n = s.spindle n := by simp [State.spindle]
@[simp] theorem judgedAt_cell (n : Nat) : (s.judgedAt f h).cell n = s.cell n := by simp [State.cell]
@[simp] theorem judgedAt_fitted (k : Nat) : (s.judgedAt f h).fitted k = s.fitted k := by simp [State.fitted]
@[simp] theorem judgedAt_namesSpindle (n : Nat) : (s.judgedAt f h).namesSpindle n = s.namesSpindle n := by
  simp [State.namesSpindle]
@[simp] theorem judgedAt_namesSegment (k : Nat) : (s.judgedAt f h).namesSegment k = s.namesSegment k := by
  simp [State.namesSegment]

end

/-! ### The state answered -/

section
variable (s : State) (h : ReqFrame) (c : Nat) (a : Answer) (d : ReplyData)

@[simp] theorem answered_spindle (n : Nat) : (s.answered h c a d).spindle n = s.spindle n := by simp [State.spindle]
@[simp] theorem answered_cell (n : Nat) : (s.answered h c a d).cell n = s.cell n := by simp [State.cell]
@[simp] theorem answered_list (side : Side) : (s.answered h c a d).list side = s.list side := by simp [State.list]
@[simp] theorem answered_carriage (side : Side) : (s.answered h c a d).carriage side = s.carriage side := by
  simp [State.carriage]
@[simp] theorem answered_entry? (n : Nat) : (s.answered h c a d).entry? n = s.entry? n := entry?_congr (by simp)
@[simp] theorem answered_listed (n : Nat) : (s.answered h c a d).listed n = s.listed n := listed_congr (by simp)

end

/-! ### The verdict -/

/-- A taken request with required arguments has its verdict's answer and effect. -/
theorem argRequest_next {h : ReqFrame} {s : State} (ht : s.takes h) (hs : h.short = false) {code : Nat} {judge : State → Verdict}
    {v : Verdict} (hj : judge (s.judgedAt (requestFrame h) h) = v) :
    onSupply (argRequest h code judge) s = .next (v.effect (s.answered h code v.answer v.data)) := by
  rw [onSupply_powered _ _ ht.1, argRequest_taken h code judge s ht hs, hj]

/-- A taken request without required arguments has its verdict's answer and effect. -/
theorem plainRequest_next {h : ReqFrame} {s : State} (ht : s.takes h) {code : Nat} {judge : State → Verdict} {v : Verdict}
    (hj : judge (s.judgedAt (requestFrame h) h) = v) :
    onSupply (plainRequest h code judge) s = .next (v.effect (s.answered h code v.answer v.data)) := by
  rw [onSupply_powered _ _ ht.1, plainRequest_taken h code judge s ht, hj]

theorem unlessDoffing_of_doffing {judge : State → Verdict} {s : State} (h : s.df.state = .doffing) :
    unlessDoffing judge s = refuse .busy := if_pos h

theorem unlessDoffing_of_not {judge : State → Verdict} {s : State} (h : ¬ s.df.state = .doffing) :
    unlessDoffing judge s = judge s := if_neg h

theorem namesSpindle_iff (s : State) (n : Nat) :
    s.namesSpindle n = true ↔ 1 ≤ n ∧ n ≤ 1920 ∧ ¬ (s.spindle n).state = .vacant := by
  simp [State.namesSpindle, Spindle.counted, and_assoc]

theorem namesSegment_iff (s : State) (k : Nat) : s.namesSegment k = true ↔ 1 ≤ k ∧ k ≤ 80 ∧ s.fitted k = true := by
  simp [State.namesSegment, and_assoc]

end Sys2Proof.Machine
end

section
/-! SUPPORT. READ_SPINDLES (R22, R54, R55, R60). -/

namespace Sys2Proof.Machine

/-- The `i`-th spindle read (R22). -/
theorem readOrder_number {start i : Nat} (h₁ : 1 ≤ start) (hi : i < 24) :
    24 * (segmentOf start - 1) + 1 + ((start - 1) % 24 + i) % 24 =
      if start + i ≤ 24 * segmentOf start then start + i else start + i - 24 := by
  unfold segmentOf
  split <;> omega

/-- The open loss of a record that is down, by its break mark (R54). -/
theorem openLoss_eq (p : Spindle) (len mark : Nat) :
    openLoss p len mark = if p.state.isDown = true then openSince p.breakMark len mark else 0 := by
  unfold openLoss openSince
  cases p.breakMark with
  | some b => rfl
  | none =>
    have : len - max len mark = 0 := by omega
    simp [this]

theorem judgeReadSpindles_done {s : State} {start count : Nat} (hn : s.namesSpindle start = true) (h₁ : 1 ≤ count)
    (h₂ : count ≤ 24) :
    judgeReadSpindles start count s = answerWith (.spindles ((readOrder start count).map (spindleView s))) := by
  simp [judgeReadSpindles, hn, h₁, h₂]

theorem judgeReadSpindles_refused {s : State} {start count : Nat}
    (h : ¬ (1 ≤ start ∧ start ≤ 1920 ∧ ¬ (s.spindle start).state = .vacant ∧ 1 ≤ count ∧ count ≤ 24)) :
    judgeReadSpindles start count s = refuse .argument := by
  refine if_neg (fun hc => h ?_)
  simp only [Bool.and_eq_true, decide_eq_true_eq, namesSpindle_iff] at hc
  obtain ⟨⟨⟨h₁, h₂, hv⟩, hc₁⟩, hc₂⟩ := hc
  exact ⟨h₁, h₂, hv, hc₁, hc₂⟩

/-- Settles O28: the judged state has the tables of the state, and the read order is the segment from the start, round. -/
theorem readSpindlesReturnsTheSegmentFromTheStart : Obligations.ReadSpindlesReturnsTheSegmentFromTheStart := by
  unfold Obligations.ReadSpindlesReturnsTheSegmentFromTheStart
  intro h start count s ht hs
  refine ⟨fun h₁ h₂ hv hc₁ hc₂ => ?_, fun hbad => ?_⟩
  · let j := s.judgedAt (requestFrame h) h
    have hn : j.namesSpindle start = true := by simp [j, namesSpindle_iff, h₁, h₂, hv]
    refine ⟨(readOrder start count).map (spindleView j), argRequest_next ht hs (judgeReadSpindles_done hn hc₁ hc₂),
      by simp [readOrder], fun i v hi => ?_⟩
    obtain ⟨hlt, rfl⟩ : i < count ∧
        spindleView j (24 * (segmentOf start - 1) + 1 + ((start - 1) % 24 + i) % 24) = v := by
      simpa [readOrder, List.getElem?_map, List.getElem?_range, Option.map_eq_some_iff, List.getElem?_eq_some_iff] using hi
    refine ⟨readOrder_number h₁ (by omega), ?_⟩
    simp [spindleView, j, producedInShift, copLength, remaining, consumed, runningSinceFill, runningLength, span, openLoss_eq,
      State.recipe]
  · exact argRequest_next ht hs (judgeReadSpindles_refused (by simpa using hbad))

end Sys2Proof.Machine
end

section
/-! SUPPORT. The spindle records over the warm resets (R24). -/

namespace Sys2Proof.Machine

/-- What a warm reset makes of a record, by its state. -/
theorem warmSpindle_eq (len : Nat) (was now hold : Bool) (p : Spindle) :
    warmSpindle len was now hold p =
      if now = false then Spindle.vacant
      else if was = false then { Spindle.vacant with state := .unseen, breakMark := some len }
      else if p.state = .vacant ∨ p.state = .offline ∨ p.state = .rogue then
        { p with listStatus := .none, slow := false, held := p.held || hold }
      else
        { p with
          state := .unseen, listStatus := .none, slow := false, attempts := 0, held := p.held || hold,
          breakMark := if p.state = .spinning then some len else some (p.breakMark.getD len) } := by
  unfold warmSpindle
  cases now with
  | false => rfl
  | true =>
    cases was with
    | false => rfl
    | true => cases hst : p.state <;> simp

/-- The record is the same in the state answered, whose table, lists and geometry are the state's. -/
theorem warmSpindles_congr {s t : State} (hs : t.spindles = s.spindles) (hps : t.ps = s.ps) (hdc : t.dc = s.dc)
    (hpd : t.pd = s.pd) (q : Profile) : warmSpindles q t = warmSpindles q s := by
  unfold warmSpindles
  simp only [State.fitted, State.entry?, State.list, hs, hps, hdc, hpd]

theorem profileAtWarm_congr {s t : State} (hps : t.ps = s.ps) : t.profileAtWarm = s.profileAtWarm := by
  unfold State.profileAtWarm
  rw [hps]

@[simp] theorem pinReset_spindles (s : State) : (pinReset s).spindles = warmSpindles s.profileAtWarm s := by
  simp only [pinReset, raiseEvent_spindles, queuePending_spindles, warmReset_spindles]

@[simp] theorem linkReset_spindles (s : State) : (linkReset s).spindles = warmSpindles s.profileAtWarm s := by
  rw [linkReset, raiseEvent_spindles, warmReset_spindles]

/-- Settles O6: both resets make the table of `warmSpindles`, read record by record. -/
theorem warmResetsKeepTheSpindleRecords : Obligations.WarmResetsKeepTheSpindleRecords := by
  unfold Obligations.WarmResetsKeepTheSpindleRecords
  refine ⟨fun s hp hsize => ⟨pinReset s, onSupply_powered _ _ hp, fun n h₁ h₂ => ?_⟩, fun h s ht harm hsize => ?_⟩
  · rw [spindle_warmSpindles hsize (pinReset_spindles s) h₁ h₂, warmSpindle_eq]
    rfl
  · have hj : judgeReset (s.judgedAt (requestFrame h) h) = perform linkReset := by simp [judgeReset, harm]
    refine ⟨linkReset (s.answered h 0x0F .done .empty), plainRequest_next ht hj, fun n h₁ h₂ => ?_⟩
    have htable : (linkReset (s.answered h 0x0F .done .empty)).spindles = warmSpindles s.profileAtWarm s := by
      rw [linkReset_spindles, profileAtWarm_congr (answered_ps ..), warmSpindles_congr (answered_spindles ..)
        (answered_ps ..) (answered_dc ..) (answered_pd ..)]
    rw [spindle_warmSpindles hsize htable h₁ h₂, warmSpindle_eq]
    rfl

end Sys2Proof.Machine
end

section
/-! SUPPORT. What taking spindles out of service leaves (R19, R20, R96). -/

namespace Sys2Proof.Machine

/-! ### Changes of the spindle table and the dispatcher -/

/-- Nothing but the spindle table and the dispatcher has changed. -/
def OnlyTable (s t : State) : Prop := t = { s with spindles := t.spindles, pd := t.pd }

namespace OnlyTable

theorem refl (s : State) : OnlyTable s s := rfl

theorem trans {s t u : State} (h₁ : OnlyTable s t) (h₂ : OnlyTable t u) : OnlyTable s u := by
  unfold OnlyTable at *
  rw [h₂, h₁]

theorem of_dispatchOnly {s t : State} (h : DispatchOnly s t) : OnlyTable s t := h.1

theorem modSpindle (n : Nat) (f : Spindle → Spindle) (s : State) : OnlyTable s (modSpindle n f s) := by
  unfold Machine.modSpindle
  split <;> rfl

theorem leaveDispatch (n : Nat) (s : State) : OnlyTable s (leaveDispatch n s) :=
  (of_dispatchOnly (DispatchOnly.of_pd s _)).trans (modSpindle n _ _)

theorem dc {s t : State} (h : OnlyTable s t) : t.dc = s.dc := by rw [h]
theorem sa {s t : State} (h : OnlyTable s t) : t.sa = s.sa := by rw [h]

theorem forEach {f : Nat → State → State} (hf : ∀ n t, OnlyTable t (f n t)) (ns : List Nat) (s : State) :
    OnlyTable s (forEach f ns s) :=
  forEach_keeps (P := OnlyTable s) (fun n t ht => ht.trans (hf n t)) ns (refl s)

end OnlyTable

/-! ### One spindle given up -/

/-- A record that is not VACANT is in the table. -/
theorem in_table_of_not_vacant {s : State} {n : Nat} (h : ¬ (s.spindle n).state = .vacant) : 1 ≤ n ∧ n ≤ s.spindles.length := by
  refine ⟨Nat.one_le_iff_ne_zero.mpr fun h0 => h (by simp [State.spindle, h0, Spindle.vacant]), ?_⟩
  by_contra hlt
  refine h ?_
  have hnone : s.spindles[n - 1]? = none := List.getElem?_eq_none (by omega)
  simp [State.spindle, List.getD_eq_getElem?_getD, hnone, Spindle.vacant]

/-- A spindle's record changes, the spindle leaves the dispatcher, and a PIECE under way for it is called off (R96). -/
def giveUp (f : Spindle → Spindle) (n : Nat) (s : State) : State :=
  let out := leaveDispatch n (modSpindle n f s)
  if (s.spindle n).state = .servicing then cancelPiece n out else out

/-- The two ways it goes: with its PIECE called off, or without. -/
theorem giveUp_cases (f : Spindle → Spindle) (n : Nat) (s : State) :
    giveUp f n s = cancelPiece n (leaveDispatch n (modSpindle n f s)) ∨ giveUp f n s = leaveDispatch n (modSpindle n f s) := by
  unfold giveUp
  simp only
  split
  · exact .inl rfl
  · exact .inr rfl

theorem OnlyTable.giveUp (f : Spindle → Spindle) (n : Nat) (s : State) : OnlyTable s (giveUp f n s) := by
  have hout : OnlyTable s (Machine.leaveDispatch n (Machine.modSpindle n f s)) :=
    (OnlyTable.modSpindle n f s).trans (.leaveDispatch n _)
  obtain h | h := giveUp_cases f n s <;> rw [h]
  · exact hout.trans (.of_dispatchOnly (.cancelPiece n _))
  · exact hout

theorem spindle_giveUp_other {m n : Nat} (h : ¬ n = m) (f : Spindle → Spindle) (s : State) :
    (giveUp f m s).spindle n = s.spindle n := by
  obtain hg | hg := giveUp_cases f m s <;> rw [hg]
  · rw [spindle_cancelPiece, spindle_leaveDispatch_other h, spindle_modSpindle_other _ _ _ _ h]
  · rw [spindle_leaveDispatch_other h, spindle_modSpindle_other _ _ _ _ h]

theorem entry?_giveUp_other {m n : Nat} (h : ¬ n = m) (f : Spindle → Spindle) (s : State) :
    (giveUp f m s).entry? n = s.entry? n := by
  obtain hg | hg := giveUp_cases f m s <;> rw [hg]
  · rw [entry?_cancelPiece, entry?_leaveDispatch_other h, entry?_modSpindle]
  · rw [entry?_leaveDispatch_other h, entry?_modSpindle]

/-- A carriage that the CANCEL for a spindle's PIECE would not touch. -/
theorem carriage_giveUp {f : Spindle → Spindle} {m : Nat} {side : Side} {s : State}
    (h : ∀ t : State, t.carriage side = s.carriage side → (cancelPiece m t).carriage side = t.carriage side) :
    (giveUp f m s).carriage side = s.carriage side := by
  have hout : (leaveDispatch m (modSpindle m f s)).carriage side = s.carriage side := by simp
  obtain hg | hg := giveUp_cases f m s <;> rw [hg]
  · exact (h _ hout).trans hout
  · exact hout

/-- Spindle `n` of `s` has been given up in `t`: its record changed by `f` and out of its list, a hold pending become held
(R89), its PIECE called off (R96). -/
structure GivenUp (f : Spindle → Spindle) (n : Nat) (s t : State) : Prop where
  record : t.spindle n =
    { f (s.spindle n) with
      held := (f (s.spindle n)).held || (s.entry? n).any (fun e => e.holdPending), listStatus := .none }
  unlisted : t.listed n = false
  cancelled : s.servicedBy (sideOf n) = some n →
    (t.carriage (sideOf n)).state = .working ∧
    (t.carriage (sideOf n)).slot =
      some { kind := .cancel, number := (s.carriage (sideOf n)).nextNumber, collected := false }

namespace GivenUp

theorem giveUp {n : Nat} {s : State} (f : Spindle → Spindle) (h₁ : 1 ≤ n) (h₂ : n ≤ s.spindles.length) :
    GivenUp f n s (giveUp f n s) := by
  have hcar : (leaveDispatch n (modSpindle n f s)).carriage (sideOf n) = s.carriage (sideOf n) := by simp
  have hrec : (leaveDispatch n (modSpindle n f s)).spindle n =
      { f (s.spindle n) with
        held := (f (s.spindle n)).held || (s.entry? n).any (fun e => e.holdPending), listStatus := .none } := by
    rw [spindle_leaveDispatch_self _ _ h₁ (by simpa using h₂), spindle_modSpindle_self _ _ _ h₁ h₂, entry?_modSpindle]
  unfold Machine.giveUp
  simp only
  split
  · refine ⟨by rw [spindle_cancelPiece, hrec], by rw [listed_cancelPiece, listed_leaveDispatch], fun hserv => ?_⟩
    obtain ⟨⟨p, hslot⟩, -⟩ := servicedBy_eq_some.mp hserv
    have hcancel := carriage_cancelPiece_of_piece (n := n) (p := p) (s := leaveDispatch n (modSpindle n f s))
      (by rw [hcar, hslot])
    rwa [hcar] at hcancel
  · next hns => exact ⟨hrec, listed_leaveDispatch n _, fun hserv => absurd (servicedBy_eq_some.mp hserv).2 hns⟩

/-- The account starts from any state with the spindle's record and entry, and its PIECE if it has one. -/
theorem of_before {f : Spindle → Spindle} {n : Nat} {s u t : State} (h : GivenUp f n u t) (hsp : u.spindle n = s.spindle n)
    (he : u.entry? n = s.entry? n)
    (hc : s.servicedBy (sideOf n) = some n → u.carriage (sideOf n) = s.carriage (sideOf n)) : GivenUp f n s t := by
  refine ⟨by rw [h.record, hsp, he], h.unlisted, fun hserv => ?_⟩
  obtain ⟨hslot, hst⟩ := servicedBy_eq_some.mp hserv
  have hu : u.servicedBy (sideOf n) = some n := servicedBy_eq_some.mpr ⟨by rw [hc hserv]; exact hslot, by rw [hsp, hst]⟩
  rw [← hc hserv]
  exact h.cancelled hu

/-- The account holds on in any state that leaves the record, the missing entry and a CANCEL alone. -/
theorem after {f : Spindle → Spindle} {n : Nat} {s t u : State} (h : GivenUp f n s t) (hsp : u.spindle n = t.spindle n)
    (hl : u.listed n = false)
    (hc : ∀ o, o.kind = .cancel → (t.carriage (sideOf n)).state = .working ∧ (t.carriage (sideOf n)).slot = some o →
      (u.carriage (sideOf n)).state = .working ∧ (u.carriage (sideOf n)).slot = some o) : GivenUp f n s u :=
  ⟨by rw [hsp, h.record], hl, fun hserv => hc _ rfl (h.cancelled hserv)⟩

theorem afterRemoval {f : Spindle → Spindle} {n : Nat} {b : Bool} {s t : State} (h : GivenUp f n s t) :
    GivenUp f n s (afterRemoval b (sideOf n) t) := by
  obtain ⟨hsp, hl⟩ := afterRemoval_leaves (b := b) h.unlisted (by simp [waitsOutside, h.record])
  exact h.after hsp hl (fun _ _ hcar => afterRemoval_keeps_cancel hcar)

/-- A change of the table and the dispatcher of the state answered. -/
theorem of_answered {f : Spindle → Spindle} {n : Nat} {s t : State} {h : ReqFrame} {c : Nat} {a : Answer} {d : ReplyData}
    (ht : GivenUp f n (s.answered h c a d) t) : GivenUp f n s t :=
  ht.of_before (by simp) (by simp) (fun _ => by simp)

end GivenUp

/-! ### One spindle taken out -/

/-- The record of a spindle that goes OFFLINE (R19). -/
def outRecord (len : Nat) (p : Spindle) : Spindle := { goDown .offline len p with attempts := 0 }

theorem takeOffline_of_out {n : Nat} {s : State} (h : (s.spindle n).state = .offline ∨ (s.spindle n).state = .vacant) :
    takeOffline n s = s := if_pos h

theorem takeOffline_of_in {n : Nat} {s : State} (h : ¬ ((s.spindle n).state = .offline ∨ (s.spindle n).state = .vacant)) :
    takeOffline n s = giveUp (outRecord s.dc.frameLength) n s := if_neg h

theorem takeOffline_cases (n : Nat) (s : State) :
    takeOffline n s = s ∨ takeOffline n s = giveUp (outRecord s.dc.frameLength) n s := by
  by_cases h : (s.spindle n).state = .offline ∨ (s.spindle n).state = .vacant
  · exact .inl (takeOffline_of_out h)
  · exact .inr (takeOffline_of_in h)

theorem OnlyTable.takeOffline (n : Nat) (s : State) : OnlyTable s (takeOffline n s) := by
  obtain h | h := takeOffline_cases n s <;> rw [h]
  · exact .refl s
  · exact .giveUp _ n s

theorem spindle_takeOffline_other {m n : Nat} (hnm : ¬ n = m) (s : State) : (takeOffline m s).spindle n = s.spindle n := by
  obtain h | h := takeOffline_cases m s <;> rw [h]
  exact spindle_giveUp_other hnm _ s

theorem entry?_takeOffline_other {m n : Nat} (hnm : ¬ n = m) (s : State) : (takeOffline m s).entry? n = s.entry? n := by
  obtain h | h := takeOffline_cases m s <;> rw [h]
  exact entry?_giveUp_other hnm _ s

/-- A spindle leaves the carriage of another's PIECE as it is. -/
theorem carriage_takeOffline_of_other {m n p : Nat} {side : Side} {s : State} (hmn : ¬ m = n)
    (hs : (s.carriage side).slot.map (fun o => o.kind) = some (.piece n p)) :
    (takeOffline m s).carriage side = s.carriage side := by
  obtain h | h := takeOffline_cases m s <;> rw [h]
  exact carriage_giveUp fun t ht => carriage_cancelPiece_of_other (p := p) hmn (by rw [ht, hs])

theorem carriage_takeOffline_of_cancel {m : Nat} {side : Side} {s : State}
    (hs : (s.carriage side).slot.map (fun o => o.kind) = some .cancel) :
    (takeOffline m s).carriage side = s.carriage side := by
  obtain h | h := takeOffline_cases m s <;> rw [h]
  exact carriage_giveUp fun t ht => carriage_cancelPiece_of_cancel (by rw [ht, hs])

theorem GivenUp.takeOffline {n : Nat} {s : State} (hv : ¬ (s.spindle n).state = .vacant)
    (ho : ¬ (s.spindle n).state = .offline) : GivenUp (outRecord s.dc.frameLength) n s (takeOffline n s) := by
  obtain ⟨h₁, h₂⟩ := in_table_of_not_vacant hv
  rw [takeOffline_of_in (by simp [hv, ho])]
  exact .giveUp _ h₁ h₂

theorem GivenUp.takeOffline_other {f : Spindle → Spindle} {m n : Nat} {s t : State} (hnm : ¬ n = m) (h : GivenUp f n s t) :
    GivenUp f n s (Machine.takeOffline m t) := by
  refine h.after (spindle_takeOffline_other hnm t) ?_ (fun o ho hcar => ?_)
  · rw [State.listed, entry?_takeOffline_other hnm]
    exact h.unlisted
  · rwa [carriage_takeOffline_of_cancel (by rw [hcar.2, Option.map_some, ho])]

/-! ### A segment taken out -/

/-- Spindles that are not among those taken out keep their records and entries. -/
theorem takeOffline_all_others {n : Nat} {ns : List Nat} (h : n ∉ ns) (s : State) :
    (forEach takeOffline ns s).spindle n = s.spindle n ∧ (forEach takeOffline ns s).entry? n = s.entry? n := by
  induction ns generalizing s with
  | nil => exact ⟨rfl, rfl⟩
  | cons m ns ih =>
    rw [List.mem_cons, not_or] at h
    obtain ⟨hsp, he⟩ := ih h.2 (takeOffline m s)
    exact ⟨hsp.trans (spindle_takeOffline_other h.1 s), he.trans (entry?_takeOffline_other h.1 s)⟩

/-- A carriage keeps its PIECE while other spindles are taken out. -/
theorem carriage_takeOffline_all_others {n p : Nat} {side : Side} {ns : List Nat} (h : n ∉ ns) {s : State}
    (hs : (s.carriage side).slot.map (fun o => o.kind) = some (.piece n p)) :
    (forEach takeOffline ns s).carriage side = s.carriage side := by
  induction ns generalizing s with
  | nil => rfl
  | cons m ns ih =>
    rw [List.mem_cons, not_or] at h
    have hm := carriage_takeOffline_of_other (Ne.symm h.1) hs
    exact (ih h.2 (s := takeOffline m s) (by rw [hm, hs])).trans hm

theorem forEach_append (f : Nat → State → State) (xs ys : List Nat) (s : State) :
    forEach f (xs ++ ys) s = forEach f ys (forEach f xs s) := List.foldl_append

/-- Each of the spindles taken out one after another is out at the end. -/
theorem GivenUp.takeOffline_all {n : Nat} {ns : List Nat} {s : State} (hn : n ∈ ns) (hnodup : ns.Nodup)
    (hv : ¬ (s.spindle n).state = .vacant) (ho : ¬ (s.spindle n).state = .offline) :
    GivenUp (outRecord s.dc.frameLength) n s (forEach Machine.takeOffline ns s) := by
  obtain ⟨before, later, rfl⟩ := List.append_of_mem hn
  obtain ⟨-, hlater, hdisj⟩ := List.nodup_append.mp hnodup
  have hnb : n ∉ before := fun hb => hdisj n hb n List.mem_cons_self rfl
  have hnl : n ∉ later := (List.nodup_cons.mp hlater).1
  obtain ⟨hsp, he⟩ := takeOffline_all_others hnb s
  have hturn : GivenUp (outRecord s.dc.frameLength) n s (Machine.takeOffline n (forEach Machine.takeOffline before s)) := by
    rw [← (OnlyTable.forEach OnlyTable.takeOffline before s).dc]
    refine (GivenUp.takeOffline (by rw [hsp]; exact hv) (by rw [hsp]; exact ho)).of_before hsp he (fun hserv => ?_)
    obtain ⟨⟨p, hslot⟩, -⟩ := servicedBy_eq_some.mp hserv
    exact carriage_takeOffline_all_others hnb hslot
  rw [forEach_append]
  exact List.foldlRecOn (motive := GivenUp _ n s) later _ hturn
    (fun t ht m hm => ht.takeOffline_other (fun hnm => hnl (hnm ▸ hm)))

theorem mem_segmentSpindles {n k : Nat} : n ∈ segmentSpindles k ↔ ∃ i < 24, 24 * (k - 1) + 1 + i = n := by
  simp [segmentSpindles]

theorem segmentSpindles_nodup (k : Nat) : (segmentSpindles k).Nodup :=
  List.nodup_range.map fun _ _ h => by simpa using h

theorem sideOf_segmentSpindles {n k : Nat} (h₁ : 1 ≤ k) (hn : n ∈ segmentSpindles k) : sideOf n = segmentSide k := by
  obtain ⟨i, hi, rfl⟩ := mem_segmentSpindles.mp hn
  unfold sideOf segmentSide
  have hiff : 24 * (k - 1) + 1 + i ≤ 960 ↔ k ≤ 40 := by omega
  simp only [hiff]

end Sys2Proof.Machine
end

section
/-! SETTLED. SERVICE_OUT of a spindle and of a segment (R19, R20). -/

namespace Sys2Proof.Machine

theorem OnlyTable.serviceOutOne (n : Nat) (s : State) : OnlyTable s (serviceOutOne n s) :=
  (OnlyTable.takeOffline n s).trans (.of_dispatchOnly (.afterRemoval _ _ _))

theorem OnlyTable.serviceOutAll (k : Nat) (s : State) : OnlyTable s (serviceOutAll k s) :=
  (OnlyTable.forEach OnlyTable.takeOffline _ s).trans (.of_dispatchOnly (.afterRemoval _ _ _))

/-- Settles O30: the single form is `takeOffline` and what follows a removal on the state answered. -/
theorem serviceOutTakesASpindleOffline : Obligations.ServiceOutTakesASpindleOffline := by
  unfold Obligations.ServiceOutTakesASpindleOffline
  intro h n s ht hs
  have hdone (hd : ¬ s.df.state = .doffing) (hn : s.namesSpindle n = true) :
      exec (.serviceOut h n) s = .next (serviceOutOne n (s.answered h 0x11 .done .empty)) := by
    refine argRequest_next ht hs (v := perform (serviceOutOne n)) ?_
    rw [unlessDoffing_of_not (by simpa using hd)]
    exact if_pos (by simpa using hn)
  refine ⟨fun hd => ?_, fun hd hbad => ?_, fun hd h₁ h₂ ho hl => ?_, fun hd h₁ h₂ hv ho => ?_⟩
  · exact argRequest_next ht hs (unlessDoffing_of_doffing (by simpa using hd))
  · refine argRequest_next ht hs (v := refuse .argument) ?_
    rw [unlessDoffing_of_not (by simpa using hd)]
    exact if_neg (by simpa [namesSpindle_iff] using hbad)
  · rw [hdone hd ((namesSpindle_iff s n).mpr ⟨h₁, h₂, by simp [ho]⟩), serviceOutOne, takeOffline_of_out (by simp [ho])]
    simp [afterRemoval, hl]
  · have hout : GivenUp (outRecord s.dc.frameLength) n s (serviceOutOne n (s.answered h 0x11 .done .empty)) := by
      rw [← answered_dc s h 0x11 .done .empty]
      exact (GivenUp.takeOffline (by simpa using hv) (by simpa using ho)).afterRemoval.of_answered
    refine ⟨_, hdone hd ((namesSpindle_iff s n).mpr ⟨h₁, h₂, hv⟩), hout.record, hout.unlisted, hout.cancelled,
      fun m hm => ?_, OnlyTable.serviceOutOne n _⟩
    have hkeep := (DispatchOnly.afterRemoval ((s.answered h 0x11 .done .empty).listed n) (sideOf n)
      (takeOffline n (s.answered h 0x11 .done .empty))).2.2 m
    rwa [spindle_takeOffline_other hm, answered_spindle] at hkeep

/-- Settles O31: the segment form takes its spindles out one by one, each as if alone, and admits once. -/
theorem serviceOutTakesASegmentOffline : Obligations.ServiceOutTakesASegmentOffline := by
  unfold Obligations.ServiceOutTakesASegmentOffline
  intro h k s ht hs
  refine ⟨fun hd => ?_, fun hd hbad => ?_, fun hd h₁ h₂ hfit => ?_⟩
  · exact argRequest_next ht hs (unlessDoffing_of_doffing (by simpa using hd))
  · refine argRequest_next ht hs (v := refuse .argument) ?_
    rw [unlessDoffing_of_not (by simpa using hd)]
    exact if_neg (by simpa [namesSegment_iff] using hbad)
  · let a := s.answered h 0x11 .done .empty
    have hdone : exec (.serviceOutSegment h k) s = .next (serviceOutAll k a) := by
      refine argRequest_next ht hs (v := perform (serviceOutAll k)) ?_
      rw [unlessDoffing_of_not (by simpa using hd)]
      exact if_pos (by simp [namesSegment_iff, h₁, h₂, hfit])
    refine ⟨_, hdone, fun n hn hv ho => ?_, fun n hn ho hl => ?_, fun m hm => ?_, OnlyTable.serviceOutAll k a⟩
    · have hall : GivenUp (outRecord s.dc.frameLength) n s (forEach takeOffline (segmentSpindles k) a) := by
        rw [← answered_dc s h 0x11 .done .empty]
        exact (GivenUp.takeOffline_all hn (segmentSpindles_nodup k) (by simpa [a] using hv)
          (by simpa [a] using ho)).of_answered
      have hout : GivenUp (outRecord s.dc.frameLength) n s (serviceOutAll k a) := by
        rw [serviceOutAll, ← sideOf_segmentSpindles h₁ hn]
        exact hall.afterRemoval
      exact ⟨hout.record, hout.unlisted, hout.cancelled⟩
    · have hkept := forEach_keeps (P := fun t : State => t.spindle n = s.spindle n ∧ t.entry? n = s.entry? n)
        (f := takeOffline) (fun m t ⟨hsp, he⟩ => ?_) (segmentSpindles k) (s := a) ⟨by simp [a], by simp [a]⟩
      · rw [serviceOutAll, ← sideOf_segmentSpindles h₁ hn, ← hkept.1]
        refine (afterRemoval_leaves ?_ (by simp [waitsOutside, hkept.1, ho])).1
        rw [State.listed, hkept.2]
        exact hl
      · by_cases hmn : n = m
        · subst hmn
          rw [takeOffline_of_out (by simp [hsp, ho])]
          exact ⟨hsp, he⟩
        · exact ⟨(spindle_takeOffline_other hmn t).trans hsp, (entry?_takeOffline_other hmn t).trans he⟩
    · have hkeep := (DispatchOnly.afterRemoval ((segmentSpindles k).any a.listed) (segmentSide k)
        (forEach takeOffline (segmentSpindles k) a)).2.2 m
      rwa [(takeOffline_all_others hm a).1, answered_spindle] at hkeep

end Sys2Proof.Machine
end

section
/-! SETTLED. SERVICE_IN (R21). -/

namespace Sys2Proof.Machine

/-- The OFFLINE ones of `ns` in `s` are UNSEEN in `t` with a blank cell; nothing else has changed (R21, R36). -/
structure BroughtIn (ns : List Nat) (s t : State) : Prop where
  brought : ∀ m, m ∈ ns ∧ (s.spindle m).state = .offline →
    t.spindle m = { s.spindle m with state := .unseen } ∧ t.cell m = Cell.blank
  others : ∀ m, ¬ (m ∈ ns ∧ (s.spindle m).state = .offline) → t.spindle m = s.spindle m ∧ t.cell m = s.cell m
  frame : t = { s with spindles := t.spindles, si := { s.si with cells := t.si.cells } }

namespace BroughtIn

theorem nil (s : State) : BroughtIn [] s s := ⟨by simp, fun _ _ => ⟨rfl, rfl⟩, rfl⟩

theorem cell_blank (n : Nat) (s : State) : (modCell n (fun _ => Cell.blank) s).cell n = Cell.blank := by
  rw [cell_modCell]
  split
  · rfl
  · next hout =>
    unfold State.cell
    split
    · rfl
    · next hn =>
      have hnone : s.si.cells[n - 1]? = none := List.getElem?_eq_none (by omega)
      rw [List.getD_eq_getElem?_getD, hnone]
      rfl

@[simp] theorem spindle_modCell (m n : Nat) (f : Cell → Cell) (s : State) : (modCell m f s).spindle n = s.spindle n := by
  simp [State.spindle]

theorem bringIn_self {n : Nat} {s : State} (ho : (s.spindle n).state = .offline) :
    (bringIn n s).spindle n = { s.spindle n with state := .unseen } ∧ (bringIn n s).cell n = Cell.blank := by
  obtain ⟨h₁, h₂⟩ := in_table_of_not_vacant (s := s) (n := n) (by simp [ho])
  rw [bringIn, if_pos ho]
  refine ⟨?_, cell_blank n _⟩
  rw [spindle_modCell, spindle_modSpindle_self _ _ _ h₁ h₂]

theorem bringIn_other {m n : Nat} (h : ¬ m = n) (s : State) :
    (bringIn n s).spindle m = s.spindle m ∧ (bringIn n s).cell m = s.cell m := by
  unfold bringIn
  split
  · rw [spindle_modCell, spindle_modSpindle_other _ _ _ _ h, cell_modCell, if_neg (fun hc => h hc.1)]
    simp [State.cell]
  · exact ⟨rfl, rfl⟩

theorem bringIn_frame (n : Nat) (s : State) :
    bringIn n s = { s with spindles := (bringIn n s).spindles, si := { s.si with cells := (bringIn n s).si.cells } } := by
  unfold bringIn modCell modSpindle
  split
  · split <;> rfl
  · rfl

theorem cons {n : Nat} {ns : List Nat} {s t : State} (h : BroughtIn ns (bringIn n s) t) : BroughtIn (n :: ns) s t := by
  refine ⟨fun m ⟨hm, ho⟩ => ?_, fun m hno => ?_, ?_⟩
  · by_cases hmn : m = n
    · subst hmn
      obtain ⟨hsp, hc⟩ := bringIn_self ho
      obtain ⟨hsp', hc'⟩ := h.others m (by simp [hsp])
      exact ⟨hsp'.trans hsp, hc'.trans hc⟩
    · obtain ⟨hsp, -⟩ := bringIn_other hmn s
      rw [← hsp]
      exact h.brought m ⟨(List.mem_cons.mp hm).resolve_left hmn, by rw [hsp, ho]⟩
  · have hkept : (bringIn n s).spindle m = s.spindle m ∧ (bringIn n s).cell m = s.cell m := by
      by_cases hmn : m = n
      · subst hmn
        rw [bringIn, if_neg (fun ho => hno ⟨List.mem_cons_self, ho⟩)]
        exact ⟨rfl, rfl⟩
      · exact bringIn_other hmn s
    obtain ⟨hsp, hc⟩ := h.others m (fun ⟨hm, ho⟩ => hno ⟨List.mem_cons_of_mem n hm, hkept.1 ▸ ho⟩)
    exact ⟨hsp.trans hkept.1, hc.trans hkept.2⟩
  · rw [h.frame, bringIn_frame]

theorem forEach (ns : List Nat) (s : State) : BroughtIn ns s (forEach bringIn ns s) := by
  induction ns generalizing s with
  | nil => exact nil s
  | cons n ns ih => exact cons (ih (bringIn n s))

theorem of_answered {ns : List Nat} {s t : State} {h : ReqFrame} {c : Nat} {a : Answer} {d : ReplyData}
    (ht : BroughtIn ns (s.answered h c a d) t) :
    (∀ m, m ∈ ns ∧ (s.spindle m).state = .offline →
      t.spindle m = { s.spindle m with state := .unseen } ∧ t.cell m = { latched := none, candidate := none }) ∧
    (∀ m, ¬ (m ∈ ns ∧ (s.spindle m).state = .offline) → t.spindle m = s.spindle m ∧ t.cell m = s.cell m) ∧
    t = { s.answered h c a d with spindles := t.spindles, si := { s.si with cells := t.si.cells } } := by
  obtain ⟨hb, ho, hf⟩ := ht
  simp only [answered_spindle, answered_cell, answered_si] at hb ho hf
  exact ⟨hb, ho, hf⟩

end BroughtIn

/-- SERVICE_IN brings in its target's spindles, where it is not refused. -/
theorem judgeServiceIn_done {target : Target} {s : State}
    (h : match target with
      | .spindle n => 1 ≤ n ∧ n ≤ 1920 ∧ (s.spindle n).state = .offline
      | .segment k => 1 ≤ k ∧ k ≤ 80 ∧ s.fitted k = true) :
    judgeServiceIn target s = perform (forEach bringIn (targetSpindles target)) := by
  cases target with
  | spindle n =>
    obtain ⟨h₁, h₂, ho⟩ := h
    have hn : s.names (.spindle n) = true := (namesSpindle_iff s n).mpr ⟨h₁, h₂, by simp [ho]⟩
    rw [judgeServiceIn, if_pos hn]
    exact if_pos ho
  | segment k => exact if_pos ((namesSegment_iff s k).mpr h)

/-- Settles O32: both forms bring in the spindles of the target on the state answered. -/
theorem serviceInBringsOfflineSpindlesBack : Obligations.ServiceInBringsOfflineSpindlesBack := by
  unfold Obligations.ServiceInBringsOfflineSpindlesBack
  intro h s ht hs
  refine ⟨fun target hd => ?_, fun n hd hbad => ?_, fun k hd hbad => ?_, fun n hd h₁ h₂ hv ho => ?_,
    fun target hd hok => ?_⟩
  · exact argRequest_next ht hs (unlessDoffing_of_doffing (by simpa using hd))
  · refine argRequest_next ht hs (v := refuse .argument) ?_
    rw [unlessDoffing_of_not (by simpa using hd)]
    exact if_neg (by simpa [State.names, namesSpindle_iff] using hbad)
  · refine argRequest_next ht hs (v := refuse .argument) ?_
    rw [unlessDoffing_of_not (by simpa using hd)]
    exact if_neg (by simpa [State.names, namesSegment_iff] using hbad)
  · refine argRequest_next ht hs (v := refuse .state) ?_
    rw [unlessDoffing_of_not (by simpa using hd), judgeServiceIn,
      if_pos (by simp [State.names, namesSpindle_iff, h₁, h₂, hv])]
    exact if_neg (by simpa using ho)
  · refine ⟨forEach bringIn (targetSpindles target) (s.answered h 0x12 .done .empty),
      argRequest_next ht hs (v := perform (forEach bringIn (targetSpindles target))) ?_, (BroughtIn.forEach _ _).of_answered⟩
    rw [unlessDoffing_of_not (by simpa using hd)]
    refine judgeServiceIn_done ?_
    cases target <;> simpa using hok

end Sys2Proof.Machine
end

section
/-! SUPPORT. What removal from the dispatcher and handing for admission make of a spindle (R68, R70, R77). -/

namespace Sys2Proof.Machine

/-! ### Removed from the dispatcher -/

/-- A spindle removed from the dispatcher keeps its record, out of its list. -/
theorem removeFromDispatch_leaves {n : Nat} {s : State} (h₁ : 1 ≤ n) (h₂ : n ≤ s.spindles.length) :
    (removeFromDispatch n s).spindle n =
      { s.spindle n with
        held := (s.spindle n).held || (s.entry? n).any (fun e => e.holdPending), listStatus := .none } ∧
    (removeFromDispatch n s).listed n = false := by
  have hrec := spindle_leaveDispatch_self n s h₁ h₂
  have hw : waitsOutside ((leaveDispatch n s).spindle n) = false := by simp [waitsOutside, hrec]
  obtain ⟨hsp, hl⟩ := afterRemoval_leaves (b := s.listed n) (listed_leaveDispatch n s) hw
  exact ⟨hsp.trans hrec, hl⟩

@[simp] theorem pieced_removeFromDispatch (n : Nat) (x : Side) (s : State) :
    ((removeFromDispatch n s).carriage x).pieced = (s.carriage x).pieced := by
  rw [removeFromDispatch, pieced_afterRemoval, carriage_leaveDispatch]

@[simp] theorem sa_removeFromDispatch (n : Nat) (s : State) : (removeFromDispatch n s).sa = s.sa :=
  ((OnlyTable.leaveDispatch n s).trans (.of_dispatchOnly (.afterRemoval _ _ _))).sa

theorem sameButDispatch_removeFromDispatch {m n : Nat} (h : ¬ m = n) (s : State) :
    (s.spindle m).sameButDispatch ((removeFromDispatch n s).spindle m) := by
  have hkeep := (DispatchOnly.afterRemoval (s.listed n) (sideOf n) (leaveDispatch n s)).2.2 m
  rwa [spindle_leaveDispatch_other h] at hkeep

/-! ### Handed for admission -/

theorem spindle_congr {s t : State} {n : Nat} (h : t.spindles = s.spindles) : t.spindle n = s.spindle n := by
  unfold State.spindle
  rw [h]

/-- Held, or with the list full, a spindle is UNLISTED outside. -/
theorem handForAdmission_outside {n : Nat} {s : State} (h : (s.spindle n).held = true ∨ 48 ≤ (s.list (sideOf n)).length) :
    (handForAdmission n s).spindles = (setListStatus n .unlisted s).spindles ∧
    (∀ m, (handForAdmission n s).listed m = s.listed m) := by
  unfold handForAdmission
  simp only
  split
  · exact ⟨rfl, fun m => listed_setListStatus ..⟩
  · next hheld =>
    have hfull : s.listHasRoom (sideOf n) = false := by
      have := h.resolve_left hheld
      simp [State.listHasRoom, this]
    rw [if_neg (by simp [hfull])]
    split
    · exact ⟨rfl, fun m => listed_setListStatus ..⟩
    · exact ⟨by simp, fun m => by simp⟩

/-- Unheld and with room, it goes in. -/
theorem handForAdmission_inside {n : Nat} {s : State} (hheld : (s.spindle n).held = false)
    (hroom : (s.list (sideOf n)).length < 48) : handForAdmission n s = admitOne n s := by
  unfold handForAdmission
  simp [hheld, State.listHasRoom, hroom]

/-- Handing for admission changes dispatch, and it may raise LIST_FULL. -/
theorem handForAdmission_keeps (n : Nat) (s : State) :
    (∀ m, (s.spindle m).sameButDispatch ((handForAdmission n s).spindle m)) ∧ (handForAdmission n s).sa = s.sa := by
  by_cases hin : (s.spindle n).held = false ∧ (s.list (sideOf n)).length < 48
  · rw [handForAdmission_inside hin.1 hin.2]
    have hkeep := DispatchOnly.admitOne n s
    exact ⟨hkeep.2.2, (OnlyTable.of_dispatchOnly hkeep).sa⟩
  · have hout : (s.spindle n).held = true ∨ 48 ≤ (s.list (sideOf n)).length := by
      by_cases hheld : (s.spindle n).held = true
      · exact .inl hheld
      · exact .inr (by simp only [hheld, true_and] at hin; omega)
    refine ⟨fun m => ?_, ?_⟩
    · rw [spindle_congr (handForAdmission_outside hout).1]
      exact (DispatchOnly.setListStatus n .unlisted s).2.2 m
    · unfold handForAdmission
      simp only
      split
      · simp [setListStatus]
      · split
        · simp [admitOne, setListStatus]
        · split <;> simp [setListStatus]

theorem admitAndSelect_keeps (n : Nat) (s : State) :
    (∀ m, (s.spindle m).sameButDispatch ((admitAndSelect n s).spindle m)) ∧ (admitAndSelect n s).sa = s.sa := by
  obtain ⟨hsp, hsa⟩ := handForAdmission_keeps n s
  unfold admitAndSelect
  simp only
  split
  · have hsel := DispatchOnly.selectFor (sideOf n) (handForAdmission n s)
    exact ⟨fun m => Spindle.sameButDispatch_trans (hsp m) (hsel.2.2 m), (OnlyTable.of_dispatchOnly hsel).sa.trans hsa⟩
  · exact ⟨hsp, hsa⟩

/-- Held, or with the list full, a spindle that has gone DOWN is left outside. -/
theorem admitAndSelect_outside {n : Nat} {s : State} (h₁ : 1 ≤ n) (h₂ : n ≤ s.spindles.length) (hl : s.listed n = false)
    (h : (s.spindle n).held = true ∨ 48 ≤ (s.list (sideOf n)).length) :
    (admitAndSelect n s).spindle n = { s.spindle n with listStatus := .unlisted } ∧
    (admitAndSelect n s).listed n = false := by
  obtain ⟨hsp, hlist⟩ := handForAdmission_outside h
  have hrec : (handForAdmission n s).spindle n = { s.spindle n with listStatus := .unlisted } := by
    rw [spindle_congr hsp, setListStatus, spindle_modSpindle_self _ _ _ h₁ h₂]
  have hout : (handForAdmission n s).listed n = false := (hlist n).trans hl
  unfold admitAndSelect
  simp only [hout, Bool.false_eq_true, if_false]
  exact ⟨hrec, trivial⟩

/-- A spindle WAITING in DOWN is left so by a selection, or given to the carriage. -/
theorem selectFor_waiting {n : Nat} {side : Side} {s : State} (hd : (s.spindle n).state = .down)
    (hw : (s.spindle n).listStatus = .waiting) :
    (((selectFor side s).spindle n).state = .down ∧ ((selectFor side s).spindle n).listStatus = .waiting) ∨
    (((selectFor side s).spindle n).state = .servicing ∧ ((selectFor side s).spindle n).listStatus = .assigned) := by
  refine selectFor_keeps (P := fun t => ((t.spindle n).state = .down ∧ (t.spindle n).listStatus = .waiting) ∨
    ((t.spindle n).state = .servicing ∧ (t.spindle n).listStatus = .assigned)) (fun t ht => ht)
    (fun t e _ ht _ _ => ?_) s (.inl ⟨hd, hw⟩)
  rw [spindle_assignPiece]
  split
  · exact .inr ⟨rfl, rfl⟩
  · exact ht

/-- Unheld and with room, a spindle that has gone DOWN is listed, WAITING or already given to the carriage. -/
theorem admitAndSelect_inside {n : Nat} {s : State} (h₁ : 1 ≤ n) (h₂ : n ≤ s.spindles.length)
    (hd : (s.spindle n).state = .down) (hheld : (s.spindle n).held = false) (hroom : (s.list (sideOf n)).length < 48) :
    (admitAndSelect n s).listed n = true ∧
    ((((admitAndSelect n s).spindle n).state = .down ∧ ((admitAndSelect n s).spindle n).listStatus = .waiting) ∨
      (((admitAndSelect n s).spindle n).state = .servicing ∧
        ((admitAndSelect n s).spindle n).listStatus = .assigned)) := by
  have hin := listed_admitOne_self n s
  have hrec := spindle_admitOne_self n s h₁ h₂
  unfold admitAndSelect
  simp only [handForAdmission_inside hheld hroom, hin, if_true]
  exact ⟨by rw [listed_selectFor, hin], selectFor_waiting (by rw [hrec, hd]) (by rw [hrec])⟩

end Sys2Proof.Machine
end

section
/-! SUPPORT. The confirmed sense values, by the state of the record (R13 to R18). -/

namespace Sys2Proof.Machine

/-- The sense values of a thread that is there. -/
theorem confirmChange_spins {v : Sense} (h : v = .spinning ∨ v = .lagging) (n : Nat) (s : State) :
    confirmChange n v s = confirmSpinning n (decide (v = .lagging)) s := by
  obtain rfl | rfl := h <;> rfl

theorem confirmChange_of_out {n : Nat} {s : State} (h : (s.spindle n).state = .offline ∨ (s.spindle n).state = .vacant)
    (v : Sense) : confirmChange n v s = s := by
  obtain h | h := h <;> cases v <;> simp [confirmChange, confirmSpinning, confirmEndDown, confirmNoRoving, h]

/-! ### A thread that is there again -/

/-- A record whose down interval has closed (R15, R16, R56). -/
theorem spinUp_eq {len shiftMark doffMark : Nat} {slow : Bool} {p : Spindle} (hb : p.breakMark.isSome = true) :
    spinUp len shiftMark doffMark slow p =
      { p with
        state := .spinning, slow := slow, attempts := 0, breakMark := none
        lostShift := min 4294967295 (p.lostShift + openSince p.breakMark len shiftMark)
        lostDoff := min 4294967295 (p.lostDoff + openSince p.breakMark len doffMark)
        lostFill := match p.fill with
          | some f => min 4294967295 (p.lostFill + openSince p.breakMark len f.mark)
          | none => p.lostFill } := by
  obtain ⟨b, hb⟩ := Option.isSome_iff_exists.mp hb
  cases hf : p.fill <;> simp [spinUp, closeInterval, hb, hf, openSince, satAdd, top32]

/-- The state in which a spindle that spins again is removed from the dispatcher: a piecing is credited where one was under
way (R16). -/
def spunAgain (n : Nat) (slow : Bool) (s : State) : State :=
  if (s.spindle n).state = .servicing ∨ (s.spindle n).state = .verifying then
    creditPiecing (sideOf n) (spindleSpins n slow s)
  else spindleSpins n slow s

theorem confirmSpinning_of_down {n : Nat} {slow : Bool} {s : State} (hs : ¬ (s.spindle n).state = .spinning)
    (ho : ¬ (s.spindle n).state = .offline) (hv : ¬ (s.spindle n).state = .vacant) :
    confirmSpinning n slow s = removeFromDispatch n (spunAgain n slow s) := by
  unfold confirmSpinning spunAgain
  cases hst : (s.spindle n).state
  case spinning => exact absurd hst hs
  case offline => exact absurd hst ho
  case vacant => exact absurd hst hv
  all_goals simp

theorem spunAgain_spindles (n : Nat) (slow : Bool) (s : State) :
    (spunAgain n slow s).spindles = (spindleSpins n slow s).spindles := by
  unfold spunAgain
  split <;> rfl

theorem spindle_spunAgain (m n : Nat) (slow : Bool) (s : State) :
    (spunAgain n slow s).spindle m = (spindleSpins n slow s).spindle m := spindle_congr (spunAgain_spindles n slow s)

theorem entry?_spunAgain (m n : Nat) (slow : Bool) (s : State) : (spunAgain n slow s).entry? m = s.entry? m := by
  refine Eq.trans (b := (spindleSpins n slow s).entry? m) ?_ (entry?_modSpindle ..)
  unfold spunAgain
  split <;> rfl

/-- The record of a spindle that spins again, and its place. -/
theorem confirmSpinning_leaves {n : Nat} {slow : Bool} {s : State} (h₁ : 1 ≤ n) (h₂ : n ≤ s.spindles.length)
    (hs : ¬ (s.spindle n).state = .spinning) (ho : ¬ (s.spindle n).state = .offline)
    (hv : ¬ (s.spindle n).state = .vacant) :
    (confirmSpinning n slow s).spindle n =
      { spinUp s.dc.frameLength s.sa.mark s.df.mark slow (s.spindle n) with
        held := (spinUp s.dc.frameLength s.sa.mark s.df.mark slow (s.spindle n)).held ||
          (s.entry? n).any (fun e => e.holdPending)
        listStatus := .none } ∧
    (confirmSpinning n slow s).listed n = false := by
  have hlen : n ≤ (spunAgain n slow s).spindles.length := by
    rw [spunAgain_spindles]
    simpa [spindleSpins] using h₂
  have hrec : (spunAgain n slow s).spindle n = spinUp s.dc.frameLength s.sa.mark s.df.mark slow (s.spindle n) := by
    rw [spindle_spunAgain, spindleSpins, spindle_modSpindle_self _ _ _ h₁ h₂]
  rw [confirmSpinning_of_down hs ho hv, ← hrec, ← entry?_spunAgain n n slow s]
  exact removeFromDispatch_leaves h₁ hlen

/-- A piecing under way is credited to the carriage and to the shift (R16, R108). -/
theorem spunAgain_credits {n : Nat} {slow : Bool} {s : State}
    (h : (s.spindle n).state = .servicing ∨ (s.spindle n).state = .verifying) :
    ((spunAgain n slow s).carriage (sideOf n)).pieced = min 4294967295 ((s.carriage (sideOf n)).pieced + 1) ∧
    (spunAgain n slow s).sa.counters =
      match sideOf n with
      | .A => { s.sa.counters with piecedA := min 4294967295 (s.sa.counters.piecedA + 1) }
      | .B => { s.sa.counters with piecedB := min 4294967295 (s.sa.counters.piecedB + 1) } := by
  rw [spunAgain, if_pos h]
  unfold creditPiecing spindleSpins
  simp only
  refine ⟨?_, ?_⟩
  · rw [carriage_modCounters, carriage_modCarriage, if_pos rfl]
    simp [satAdd, top32]
  · cases sideOf n <;> simp [modCounters, modCarriage, satAdd, top32]

theorem spunAgain_credits_none {n : Nat} {slow : Bool} {s : State}
    (h : ¬ ((s.spindle n).state = .servicing ∨ (s.spindle n).state = .verifying)) (x : Side) :
    ((spunAgain n slow s).carriage x).pieced = (s.carriage x).pieced ∧ (spunAgain n slow s).sa = s.sa := by
  rw [spunAgain, if_neg h]
  simp [spindleSpins]

/-! ### An end that is down -/

/-- A break or a first END_DOWN, before the spindle is handed for admission (R13, R14). -/
def endsDown (n : Nat) (s : State) : State :=
  if (s.spindle n).state = .spinning then
    modCounters (fun c => { c with breaks := satAdd top32 c.breaks 1 })
      (modSpindle n (fun p =>
        { p with state := .down, breakMark := some s.dc.frameLength, slow := false, breaks := satAdd 255 p.breaks 1 }) s)
  else modSpindle n (fun p => { p with state := .down }) s

theorem confirmEndDown_of_up {n : Nat} {s : State}
    (h : (s.spindle n).state = .spinning ∨ (s.spindle n).state = .unseen ∨ (s.spindle n).state = .starved) :
    confirmEndDown n s = admitAndSelect n (endsDown n s) := by
  obtain h | h | h := h <;> simp [confirmEndDown, endsDown, h, takeBreak, takeEndDown]

theorem spindle_endsDown {n : Nat} {s : State} (h₁ : 1 ≤ n) (h₂ : n ≤ s.spindles.length) :
    (endsDown n s).spindle n =
      if (s.spindle n).state = .spinning then
        { s.spindle n with
          state := .down, breakMark := some s.dc.frameLength, slow := false, breaks := min 255 ((s.spindle n).breaks + 1) }
      else { s.spindle n with state := .down } := by
  unfold endsDown
  split
  · exact spindle_modSpindle_self n _ s h₁ h₂
  · exact spindle_modSpindle_self n _ s h₁ h₂

theorem spindle_endsDown_other {m n : Nat} (h : ¬ m = n) (s : State) : (endsDown n s).spindle m = s.spindle m := by
  unfold endsDown
  split
  · exact spindle_modSpindle_other n m _ s h
  · exact spindle_modSpindle_other n m _ s h

theorem length_endsDown (n : Nat) (s : State) : (endsDown n s).spindles.length = s.spindles.length := by
  unfold endsDown
  split <;> simp [modCounters]

theorem pd_endsDown (n : Nat) (s : State) : (endsDown n s).pd = s.pd := by
  unfold endsDown
  split <;> simp [modCounters]

theorem list_endsDown (n : Nat) (side : Side) (s : State) : (endsDown n s).list side = s.list side := by
  unfold State.list
  rw [pd_endsDown]

theorem listed_endsDown (m n : Nat) (s : State) : (endsDown n s).listed m = s.listed m := listed_congr (list_endsDown ..)

theorem sa_endsDown (n : Nat) (s : State) :
    (endsDown n s).sa =
      if (s.spindle n).state = .spinning then { s.sa with counters.breaks := min 4294967295 (s.sa.counters.breaks + 1) }
      else s.sa := by
  unfold endsDown
  split <;> simp [modCounters, satAdd, top32]

/-! ### A spindle without roving -/

/-- NO_ROVING gives a spindle up as STARVED (R17, R96). -/
theorem confirmNoRoving_of_with {n : Nat} {s : State}
    (h : (s.spindle n).state = .spinning ∨ (s.spindle n).state = .down ∨ (s.spindle n).state = .unseen ∨
      (s.spindle n).state = .servicing ∨ (s.spindle n).state = .verifying) :
    confirmNoRoving n s = afterRemoval (s.listed n) (sideOf n) (giveUp (goDown .starved s.dc.frameLength) n s) := by
  obtain h | h | h | h | h := h <;> simp [confirmNoRoving, giveUp, h, removeFromDispatch]

/-! ### The other spindles -/

/-- A confirmed change leaves every other spindle's record, but for dispatch. -/
theorem confirmChange_others {m n : Nat} (h : ¬ m = n) (v : Sense) (s : State) :
    (s.spindle m).sameButDispatch ((confirmChange n v s).spindle m) := by
  have hspins (slow : Bool) : (s.spindle m).sameButDispatch ((confirmSpinning n slow s).spindle m) := by
    by_cases hs : (s.spindle n).state = .spinning
    · simp only [confirmSpinning, hs]
      rw [spindle_modSpindle_other _ _ _ _ h]
      rfl
    · by_cases hout : (s.spindle n).state = .offline ∨ (s.spindle n).state = .vacant
      · have hsame : confirmSpinning n slow s = s := by
          obtain ho | ho := hout <;> simp [confirmSpinning, ho]
        rw [hsame]
        rfl
      · rw [not_or] at hout
        have hkeep := sameButDispatch_removeFromDispatch h (spunAgain n slow s)
        rwa [spindle_spunAgain, spindleSpins, spindle_modSpindle_other _ _ _ _ h,
          ← confirmSpinning_of_down hs hout.1 hout.2] at hkeep
  cases v with
  | spinning => exact hspins false
  | lagging => exact hspins true
  | endDown =>
    by_cases hup : (s.spindle n).state = .spinning ∨ (s.spindle n).state = .unseen ∨ (s.spindle n).state = .starved
    · have hkeep := (admitAndSelect_keeps n (endsDown n s)).1 m
      rwa [spindle_endsDown_other h, ← confirmEndDown_of_up hup] at hkeep
    · have hsame : confirmEndDown n s = s := by
        unfold confirmEndDown
        cases hst : (s.spindle n).state <;> simp [hst] at hup ⊢
      rw [confirmChange, hsame]
      rfl
  | noRoving =>
    by_cases hwith : (s.spindle n).state = .spinning ∨ (s.spindle n).state = .down ∨ (s.spindle n).state = .unseen ∨
        (s.spindle n).state = .servicing ∨ (s.spindle n).state = .verifying
    · have hkeep := (DispatchOnly.afterRemoval (s.listed n) (sideOf n) (giveUp (goDown .starved s.dc.frameLength) n s)).2.2 m
      rwa [spindle_giveUp_other h, ← confirmNoRoving_of_with hwith] at hkeep
    · have hsame : confirmNoRoving n s = s := by
        unfold confirmNoRoving
        cases hst : (s.spindle n).state <;> simp [hst] at hwith ⊢
      rw [confirmChange, hsame]
      rfl

end Sys2Proof.Machine
end

section
/-! SETTLED. Confirmed changes (R9, R13 to R18). -/

namespace Sys2Proof.Machine

/-- Settles O34, value by value: each is a change of the record followed by removal from the dispatcher or by handing for
admission. -/
theorem confirmedChangesMoveTheRecord : Obligations.ConfirmedChangesMoveTheRecord := by
  unfold Obligations.ConfirmedChangesMoveTheRecord
  intro n s h₁ h₂
  refine ⟨fun v hout => confirmChange_of_out hout v, fun v hv => ?_, ?_, ?_, fun v m hm => confirmChange_others hm v s⟩
  · rw [confirmChange_spins hv]
    refine ⟨fun hs => ?_, fun hs ho hvac => ?_⟩
    · have hslow : confirmSpinning n (decide (v = .lagging)) s =
          modSpindle n (fun p => { p with slow := decide (v = .lagging) }) s := by simp only [confirmSpinning, hs]
      rw [hslow]
      exact ⟨spindle_modSpindle_self _ _ _ h₁ h₂, by unfold modSpindle; split <;> rfl⟩
    · obtain ⟨hrec, hl⟩ := confirmSpinning_leaves (slow := decide (v = .lagging)) h₁ h₂ hs ho hvac
      refine ⟨hl, fun hb => ?_, fun hp => ?_, fun hp => ?_⟩
      · rw [spinUp_eq hb] at hrec
        exact hrec
      · rw [confirmSpinning_of_down hs ho hvac, pieced_removeFromDispatch, sa_removeFromDispatch]
        exact spunAgain_credits hp
      · rw [confirmSpinning_of_down hs ho hvac, pieced_removeFromDispatch, sa_removeFromDispatch]
        exact spunAgain_credits_none hp _
  · have hsame (h : (s.spindle n).state = .down ∨ (s.spindle n).state = .servicing ∨ (s.spindle n).state = .verifying ∨
        (s.spindle n).state = .rogue) : confirmEndDown n s = s := by
      obtain h | h | h | h := h <;> simp only [confirmEndDown, h]
    have hlen : n ≤ (endsDown n s).spindles.length := by rw [length_endsDown]; exact h₂
    have hdown := spindle_endsDown (n := n) (s := s) h₁ h₂
    obtain ⟨hkeep, hsa⟩ := admitAndSelect_keeps n (endsDown n s)
    have hkeep := hkeep n
    rw [hdown] at hkeep
    rw [sa_endsDown] at hsa
    refine ⟨hsame, fun hs => ?_, fun hs => ?_, fun hup hl => ?_⟩
    · rw [if_pos hs, ← confirmEndDown_of_up (.inl hs)] at hkeep hsa
      exact ⟨hkeep, hsa⟩
    · have hns : ¬ (s.spindle n).state = .spinning := by obtain h | h := hs <;> simp [h]
      rw [if_neg hns, ← confirmEndDown_of_up (.inr hs)] at hkeep hsa
      exact ⟨hkeep, hsa⟩
    · have hl' : (endsDown n s).listed n = false := (listed_endsDown ..).trans hl
      have hstate : ((endsDown n s).spindle n).state = .down := by rw [hdown]; split <;> rfl
      have hheld : ((endsDown n s).spindle n).held = (s.spindle n).held := by rw [hdown]; split <;> rfl
      have hroom := list_endsDown n (sideOf n) s
      rw [← hheld, ← hroom, confirmChange, confirmEndDown_of_up hup]
      refine ⟨fun hout => ?_, fun hno hlt => admitAndSelect_inside h₁ hlen hstate hno hlt⟩
      obtain ⟨hrec, hun⟩ := admitAndSelect_outside h₁ hlen hl' hout
      exact ⟨by rw [hrec, hstate], by rw [hrec], hun⟩
  · have hsame (h : (s.spindle n).state = .starved ∨ (s.spindle n).state = .rogue) : confirmNoRoving n s = s := by
      obtain h | h := h <;> simp only [confirmNoRoving, h]
    refine ⟨hsame, fun hwith => ?_⟩
    have hgone := (GivenUp.giveUp (goDown .starved s.dc.frameLength) h₁ h₂).afterRemoval (b := s.listed n)
    have hsa : (afterRemoval (s.listed n) (sideOf n) (giveUp (goDown .starved s.dc.frameLength) n s)).sa = s.sa :=
      ((OnlyTable.giveUp _ n s).trans (.of_dispatchOnly (.afterRemoval _ _ _))).sa
    rw [← confirmNoRoving_of_with hwith] at hgone hsa
    exact ⟨hgone.record, hgone.unlisted, hsa, hgone.cancelled⟩

end Sys2Proof.Machine
end

section
/-! SUPPORT. The default poll schedule in groups of eight (R177). -/

namespace Sys2Proof.Machine

/-- The groups of eight segments of the default schedule, `g` the segments since the last group. -/
def pollGroups : List Nat → List Nat → List (List Nat)
  | [], g => if g = [] then [] else [g]
  | k :: ks, g => if g.length = 7 then (g ++ [k]) :: pollGroups ks [] else pollGroups ks (g ++ [k])

theorem flatten_pollGroups (ks g : List Nat) : (pollGroups ks g).flatten = g ++ ks := by
  induction ks generalizing g with
  | nil =>
    unfold pollGroups
    split
    · next hg => simp [hg]
    · simp
  | cons k ks ih =>
    unfold pollGroups
    split
    · simp [ih]
    · simp [ih]

theorem length_of_mem_pollGroups {ks g : List Nat} (hg : g.length ≤ 7) {x : List Nat} (hx : x ∈ pollGroups ks g) :
    1 ≤ x.length ∧ x.length ≤ 8 := by
  induction ks generalizing g with
  | nil =>
    unfold pollGroups at hx
    split at hx
    · simp at hx
    · next hne =>
      rw [List.mem_singleton] at hx
      subst hx
      exact ⟨List.length_pos_iff.mpr hne, by omega⟩
  | cons k ks ih =>
    unfold pollGroups at hx
    split at hx
    · next h7 =>
      rw [List.mem_cons] at hx
      obtain rfl | hx := hx
      · simp [h7]
      · exact ih (by simp) hx
    · next h7 => exact ih (by simp; omega) hx

/-- Every group but the last is full. -/
theorem length_of_mem_dropLast_pollGroups {ks g : List Nat} {x : List Nat} (hx : x ∈ (pollGroups ks g).dropLast) :
    x.length = 8 := by
  induction ks generalizing g with
  | nil =>
    unfold pollGroups at hx
    split at hx <;> simp at hx
  | cons k ks ih =>
    unfold pollGroups at hx
    split at hx
    · next h7 =>
      by_cases hlast : pollGroups ks [] = []
      · simp [hlast] at hx
      · rw [List.dropLast_cons_of_ne_nil hlast, List.mem_cons] at hx
        obtain rfl | hx := hx
        · simp [h7]
        · exact ih hx
    · exact ih hx

/-- The schedule is its groups, each followed by the drive, the carriages and the doffer. -/
theorem scheduleOf_eq_groups {ks g : List Nat} (hg : g.length ≤ 7) :
    g ++ scheduleOf ks g.length = ((pollGroups ks g).map (fun x => x ++ [96, 97, 98, 99])).flatten := by
  induction ks generalizing g with
  | nil =>
    unfold pollGroups scheduleOf
    by_cases hnil : g = []
    · simp [hnil]
    · simp [hnil]
  | cons k ks ih =>
    unfold pollGroups scheduleOf
    by_cases h7 : g.length = 7
    · have hrest := ih (g := []) (by simp)
      simp only [List.length_nil, List.nil_append] at hrest
      simp [h7, hrest]
    · have hrest := ih (g := g ++ [k]) (by simp; omega)
      simp only [List.length_append, List.length_cons, List.length_nil, Nat.zero_add, List.append_assoc] at hrest
      simpa [h7] using hrest

theorem fittedSegments_eq (a b : Nat) :
    fittedSegments a b = (List.range' 1 80).filter (fun k => decide ((1 ≤ k ∧ k ≤ a) ∨ (41 ≤ k ∧ k ≤ 40 + b))) := by
  have hrange : (List.range 80).map (· + 1) = List.range' 1 80 := by
    rw [List.range'_eq_map_range]
    exact List.map_congr_left fun k _ => Nat.add_comm k 1
  rw [fittedSegments, hrange]
  exact List.filter_congr fun k _ => by simp [fittedIn]

/-- The default schedule is the one of R177. -/
theorem defaultSchedule_spec (a b : Nat) : DefaultSchedule a b (defaultSchedule a b) :=
  ⟨pollGroups (fittedSegments a b) [], by rw [flatten_pollGroups, ← fittedSegments_eq]; rfl,
    fun _ hx => length_of_mem_pollGroups (by simp) hx, fun _ hx => length_of_mem_dropLast_pollGroups hx,
    scheduleOf_eq_groups (g := []) (by simp)⟩

theorem defaultPassTable_eq :
    defaultPassTable = (List.range 32).map (fun code =>
      { segment := if code = 24 then .whenStopped else .deny, drive := .deny,
        carriage := if code = 24 then .whenOut else .deny, doffer := if code = 24 then .whenOut else .deny,
        up := decide (code = 9 ∨ code = 14) }) := by decide

/-- Sense Intake after a reset (R44). -/
theorem initial_intake :
    Intake.initial.gate = .closed ∧ Intake.initial.settle.running = false ∧
    Intake.initial.cells = List.replicate 1920 { latched := none, candidate := none } ∧
    Intake.initial.segments = List.replicate 80 { samples := 0, unread := 0, flicker := 0, lastHeard := none } := by
  rw [Intake.initial]
  exact ⟨rfl, rfl, rfl, rfl⟩

/-- The station entries after a reset (R191). -/
theorem initial_stations :
    (∀ e ∈ stationAddresses.map Station.initial, e.found = (e.address == 0) ∧ e.silence = 0 ∧ e.errors = 0 ∧
      e.lastReport = none ∧ e.lastHeard = none ∧ e.mailbox = none ∧ e.mailboxNext = 0 ∧ e.overrun = false) ∧
    (stationAddresses.map Station.initial).map (fun e => e.address) = stationAddresses := by
  refine ⟨fun e he => ?_, ?_⟩
  · obtain ⟨a, -, rfl⟩ := List.mem_map.mp he
    simp [Station.initial]
  · rw [List.map_map]
    exact List.map_id _

end Sys2Proof.Machine
end

section
/-! SUPPORT. The power-on reset block by block (R205, R206, R209). -/

namespace Sys2Proof.Machine

/-- The power-on values with RESET raised. -/
def poweredOn (p : Profile) (src : ProfileSource) (s : State) : State := raiseEvent .reset 0 (powerOnValues p src s)

section
variable (p : Profile) (src : ProfileSource) (s : State)

@[simp] theorem poweredOn_powered : (poweredOn p src s).powered = true := by
  simp only [poweredOn, raiseEvent_powered, powerOnValues]

@[simp] theorem poweredOn_ps : (poweredOn p src s).ps =
    { stored := s.ps.stored, checkPasses := s.ps.checkPasses, pendingCopy := p, inForce := p, source := src, busy := false } := by
  simp only [poweredOn, raiseEvent_ps, powerOnValues]

@[simp] theorem poweredOn_dc : (poweredOn p src s).dc =
    { frameLength := 0, rem := 0, baseline := none, drive := none, firstTaken := false, refound := false, runClock := 0 } := by
  simp only [poweredOn, raiseEvent_dc, powerOnValues]

theorem spindle_poweredOn {n : Nat} (h₁ : 1 ≤ n) (h₂ : n ≤ 1920) :
    (poweredOn p src s).spindle n =
      if fittedIn p.segmentsA p.segmentsB (segmentOf n) then Spindle.fresh 0 else Spindle.vacant := by
  rw [poweredOn, spindle_congr (raiseEvent_spindles ..), spindle_powerOnValues p src s h₁ h₂]

@[simp] theorem poweredOn_si : (poweredOn p src s).si = Intake.initial := by
  simp only [poweredOn, raiseEvent_si, powerOnValues]

@[simp] theorem poweredOn_pd : (poweredOn p src s).pd =
    { lists := { a := [], b := [] }, globalHold := false, carriages := { a := Carriage.initial, b := Carriage.initial } } := by
  simp only [poweredOn, raiseEvent_pd, powerOnValues_pd]

@[simp] theorem poweredOn_df : (poweredOn p src s).df = DoffControl.initial := by
  simp only [poweredOn, raiseEvent_df, powerOnValues]

@[simp] theorem poweredOn_rm : (poweredOn p src s).rm =
    { lots := p.lots, forecasts := List.replicate 80 none, queue := [], period := 0, periodRunning := false,
      lastFullPass := none, due := [], asked := 0 } := by
  simp only [poweredOn, raiseEvent_rm, powerOnValues]

@[simp] theorem poweredOn_sa : (poweredOn p src s).sa =
    { number := 0, openedAt := 0, mark := 0, counters := ShiftCounters.zero, history := [] } := by
  simp only [poweredOn, raiseEvent_sa, powerOnValues]

@[simp] theorem poweredOn_lc : (poweredOn p src s).lc =
    LineControl.initial (defaultSchedule p.segmentsA p.segmentsB) := by
  simp only [poweredOn, raiseEvent_lc, powerOnValues]

@[simp] theorem poweredOn_overtaken : (poweredOn p src s).overtaken = Overtaken.none := by
  simp only [poweredOn, raiseEvent_overtaken, powerOnValues]

end

/-- A raise of RESET where no class has been raised and the own queue is empty: its NOTICE is the queue (R203). -/
theorem raiseEvent_reset_fresh {u : State} (detail : Nat) (hev : u.events = List.replicate 16 EventClass.clear)
    (hown : u.ml.own = []) :
    (raiseEvent .reset detail u).events =
      { flag := true, count := 1, detail := detail, mask := true, pending := false, given := true } ::
        List.replicate 15 EventClass.clear ∧
    (raiseEvent .reset detail u).ml =
      { u.ml with
        own := [{ dest := 0, src := u.frameNumber, seq := u.ml.ownSeq, body := .notice 0 true 1 detail u.dc.runClock }]
        ownSeq := (u.ml.ownSeq + 1) % 65536 } := by
  have hcons : u.events = EventClass.clear :: List.replicate 15 EventClass.clear := by rw [hev]; rfl
  have hevent : u.event 0 = EventClass.clear := by rw [State.event, hcons]; rfl
  have hraise : raiseEvent .reset detail u =
      queueNotice 0 (modEvent 0 (fun e => { e with flag := true, count := satAdd 255 e.count 1, detail := detail }) u) := by
    unfold raiseEvent admitNotice
    simp [EventId.num, hevent, EventClass.clear, State.ownHasRoom, modEvent, hown]
  rw [hraise]
  refine ⟨?_, ?_⟩
  · simp [queueNotice, originate, queueOwn, modEvent, hcons, EventClass.clear, satAdd]
  · simp [queueNotice, originate, queueOwn, modEvent, State.event, hcons, hown, EventClass.clear, satAdd, State.frameNumber]

theorem poweredOn_events (p : Profile) (src : ProfileSource) (s : State) :
    (poweredOn p src s).events =
      { flag := true, count := 1, detail := 0, mask := true, pending := false, given := true } ::
        List.replicate 15 EventClass.clear :=
  (raiseEvent_reset_fresh 0 (by simp only [powerOnValues]) (by simp only [powerOnValues])).1

theorem poweredOn_ml (p : Profile) (src : ProfileSource) (s : State) :
    (poweredOn p src s).ml =
      { throughDown := [], throughUp := [],
        own := [{ dest := 0, src := p.frameNumber, seq := 0, body := .notice 0 true 1 0 0 }],
        upTx := none, downTx := none, lastServed := .own, downConnected := s.ml.downConnected, upLink := s.ml.upLink,
        ownSeq := 1, resetArm := false, counts := PortCounts.zero, passTable := defaultPassTable, recipe := p.recipe,
        lastReset := .powerOn } := by
  have hml := (raiseEvent_reset_fresh (u := powerOnValues p src s) 0 (by simp only [powerOnValues])
    (by simp only [powerOnValues])).2
  rw [poweredOn, hml]
  simp only [powerOnValues, State.frameNumber]

/-! ### The profile in force -/

/-- Whether the stored profile passes its check when the supply comes back (R206, logs 3, 4). -/
theorem loseSupply_checkPasses {s : State} (h : ¬ (loseSupply s).ps.checkPasses = true) :
    s.ps.checkPasses = false ∨ s.ps.busy = true := by
  by_cases hb : s.ps.busy = true
  · exact .inr hb
  · exact .inl (by simpa [loseSupply, hb] using h)

theorem checkPasses_of_loseSupply {s : State} (h : (loseSupply s).ps.checkPasses = true) : s.ps.checkPasses = true := by
  unfold loseSupply at h
  simp only at h
  split at h
  · exact (Bool.and_eq_true_iff.mp h).1
  · exact h

/-- POWER_ON is the power-on values of the profile in force, for a state with the stored profile and the links kept. -/
theorem powerOn_cases (s : State) : ∃ (u : State) (p : Profile) (src : ProfileSource),
    exec .powerOn s = .next (poweredOn p src u) ∧
    ((src = .stored ∧ p = s.ps.stored ∧ s.ps.checkPasses = true) ∨
      (src = .default ∧ p = Profile.default ∧ (s.ps.checkPasses = false ∨ (s.powered = true ∧ s.ps.busy = true)))) ∧
    u.ps.stored = s.ps.stored ∧ u.ml.downConnected = s.ml.downConnected ∧ u.ml.upLink = s.ml.upLink := by
  let u := if s.powered then loseSupply s else s
  have hon : exec .powerOn s = .next (powerUp u) := rfl
  have hkept : u.ps.stored = s.ps.stored ∧ u.ml.downConnected = s.ml.downConnected ∧ u.ml.upLink = s.ml.upLink := by
    by_cases hp : s.powered = true
    · simp [u, hp, loseSupply, powerOnValues]
    · simp [u, hp]
  by_cases hc : u.ps.checkPasses = true
  · refine ⟨u, u.ps.stored, .stored, by rw [hon, powerUp, if_pos hc]; rfl, .inl ⟨rfl, hkept.1, ?_⟩, hkept⟩
    by_cases hp : s.powered = true
    · exact checkPasses_of_loseSupply (by simpa [u, hp] using hc)
    · simpa [u, hp] using hc
  · refine ⟨u, Profile.default, .default, by rw [hon, powerUp, if_neg hc]; rfl, .inr ⟨rfl, rfl, ?_⟩, hkept⟩
    by_cases hp : s.powered = true
    · exact (loseSupply_checkPasses (by simpa [u, hp] using hc)).imp_right (fun hb => ⟨hp, hb⟩)
    · exact .inl (by simpa [u, hp] using hc)

end Sys2Proof.Machine
end

section
/-! SETTLED. POWER_ON (R209). -/

namespace Sys2Proof.Machine

/-- Settles O4: the blocks of `poweredOn`, each by its own equation. -/
theorem powerOnGivesEveryBlockItsPowerOnValues : Obligations.PowerOnGivesEveryBlockItsPowerOnValues := by
  unfold Obligations.PowerOnGivesEveryBlockItsPowerOnValues
  intro s
  obtain ⟨u, p, src, hon, hchoice, hstored, hdown, hup⟩ := powerOn_cases s
  have hspindle (n : Nat) (h₁ : 1 ≤ n) (h₂ : n ≤ 1920) : (poweredOn p src u).spindle n =
      if fittedIn p.segmentsA p.segmentsB (segmentOf n) then Spindle.fresh 0 else Spindle.vacant :=
    spindle_poweredOn p src u h₁ h₂
  have hcarriage (side : Side) : (poweredOn p src u).carriage side = Carriage.initial := by
    cases side <;> simp only [State.carriage, poweredOn_pd, PerSide.get]
  obtain ⟨hgate, hsettle, hcells, hsegments⟩ := initial_intake
  obtain ⟨hentries, haddresses⟩ := initial_stations
  refine ⟨poweredOn p src u, p, src, hon, hchoice, poweredOn_powered .., ?_⟩
  simp only [poweredOn_ps, poweredOn_dc, poweredOn_si, poweredOn_pd, poweredOn_df, poweredOn_rm, poweredOn_sa, poweredOn_lc,
    poweredOn_ml, poweredOn_overtaken, poweredOn_events, hstored, hdown, hup, hcarriage, hgate, hsettle, hcells, hsegments,
    DoffControl.initial, Carriage.initial, ShiftCounters.zero, PortCounts.zero, Overtaken.none, EventClass.clear,
    LineControl.initial, defaultPassTable_eq, true_and, and_true, implies_true]
  exact ⟨hspindle, hentries, haddresses, defaultSchedule_spec _ _⟩

end Sys2Proof.Machine
end

section
/-! SUPPORT. The blocks a read returns, on the state judged, and the lists that READ_LIST and READ_STATIONS make (R88, R189). -/

namespace Sys2Proof.Machine

/-! ### The state judged -/

/-- What a copy's going on toward DOWN leaves as it is (R194). -/
theorem judgedAt_same {α : Type} (v : State → α)
    (hv : ∀ (s : State) d c, v { s with ml.throughDown := d, ml.counts := c } = v s) (s : State) (f : RawFrame) (h : ReqFrame) :
    v (s.judgedAt f h) = v s := by
  rw [judgedAt_eq]
  exact hv ..

/-- A request addressed to this part is judged on the state as it stands: no copy has gone on. -/
theorem judgedAt_of_here {s : State} {f : RawFrame} {h : ReqFrame} (hd : h.dest = s.frameNumber) : s.judgedAt f h = s :=
  if_pos hd

/-! ### Reads -/

section
variable {h : ReqFrame} {s : State} (ht : s.takes h) {code : Nat} {r : ReplyData}
include ht

/-- A request without required arguments that looks at what a copy's going on leaves as it is (R194). -/
theorem plainVerdict_next {judge : State → Verdict} {v : Verdict}
    (hd : ∀ (s : State) u c, judge { s with ml.throughDown := u, ml.counts := c } = judge s) (hj : judge s = v) :
    onSupply (plainRequest h code judge) s = .next (v.effect (s.answered h code v.answer v.data)) :=
  plainRequest_next ht ((judgedAt_same judge hd ..).trans hj)

/-- A read without required arguments returns its data and changes nothing more than an answer does. -/
theorem plainRead_next {d : State → ReplyData}
    (hd : ∀ (s : State) u c, d { s with ml.throughDown := u, ml.counts := c } = d s) :
    onSupply (plainRequest h code (fun t => answerWith (d t))) s = .next (s.answered h code .done (d s)) :=
  plainVerdict_next ht (v := answerWith (d s)) (fun s u c => congrArg answerWith (hd s u c)) rfl

/-- So does a read with required arguments, where its verdict is to answer. -/
theorem argRead_next (hs : h.short = false) {judge : State → Verdict}
    (hd : ∀ (s : State) u c, judge { s with ml.throughDown := u, ml.counts := c } = judge s) (hj : judge s = answerWith r) :
    onSupply (argRequest h code judge) s = .next (s.answered h code .done r) :=
  argRequest_next ht hs (v := answerWith r) ((judgedAt_same judge hd ..).trans hj)

/-- A request that is refused changes nothing more than an answer does. -/
theorem argRefuse_next (hs : h.short = false) {judge : State → Verdict} {a : Answer}
    (hj : judge (s.judgedAt (requestFrame h) h) = refuse a) :
    onSupply (argRequest h code judge) s = .next (s.answered h code a .empty) :=
  argRequest_next ht hs (v := refuse a) hj

end

theorem mem_sideSpindles {side : Side} {n : Nat} : n ∈ sideSpindles side ↔ 1 ≤ n ∧ n ≤ 1920 ∧ sideOf n = side := by
  cases side
  · refine List.mem_map.trans ⟨?_, fun ⟨h₁, _, hs⟩ => ?_⟩
    · rintro ⟨i, hi, rfl⟩
      have hi := List.mem_range.mp hi
      exact ⟨Nat.succ_pos i, Nat.le_trans hi (by decide), if_pos hi⟩
    · have hle : n ≤ 960 := Decidable.byContradiction fun hn => absurd ((if_neg hn).symm.trans hs) (by decide)
      exact ⟨n - 1, List.mem_range.mpr (Nat.lt_of_lt_of_le (Nat.sub_one_lt_of_lt h₁) hle), Nat.sub_add_cancel h₁⟩
  · refine List.mem_map.trans ⟨?_, fun ⟨_, h₂, hs⟩ => ?_⟩
    · rintro ⟨i, hi, rfl⟩
      have hi := List.mem_range.mp hi
      exact ⟨Nat.succ_pos _, Nat.add_le_add_right (Nat.le_of_lt_succ hi) 961,
        if_neg (Nat.not_le_of_gt (Nat.le_add_left 961 i))⟩
    · have hgt : ¬ n ≤ 960 := fun hn => absurd ((if_pos hn).symm.trans hs) (by decide)
      exact ⟨n - 961, List.mem_range.mpr (Nat.sub_lt_left_of_lt_add (Nat.lt_of_not_le hgt) (Nat.lt_succ_of_le h₂)),
        Nat.sub_add_cancel (Nat.lt_of_not_le hgt)⟩

theorem sideSpindles_nodup (side : Side) : (sideSpindles side).Nodup := by
  cases side <;> exact List.Nodup.map (fun _ _ h => Nat.add_right_cancel h) List.nodup_range

/-- The spindles of a side that are UNLISTED (R88). -/
def unlistedOf (s : State) (side : Side) : List Nat :=
  (sideSpindles side).filter (fun n => (s.spindle n).listStatus == .unlisted)

/-- READ_LIST counts the UNLISTED spindles of the side, and the held ones of them. -/
theorem listView_eq (s : State) (side : Side) : listView s side =
    { side := side, entries := s.list side, unlisted := (unlistedOf s side).length,
      unlistedHeld := ((unlistedOf s side).filter (fun n => (s.spindle n).held)).length,
      globalHold := s.pd.globalHold, runClock := s.dc.runClock } := rfl

/-- No station has an address above the doffer's (R174). -/
theorem kindAt_of_large {a : Nat} (h : 100 ≤ a) : kindAt a = none := by
  have hne {n : Nat} (hn : n < 100) : ¬ a = n := fun he => Nat.not_lt_of_le h (he ▸ hn)
  refine (if_neg (hne (by decide))).trans ((if_neg fun hle => ?_).trans ((if_neg (hne (by decide))).trans
    ((if_neg fun hc => hc.elim (hne (by decide)) (hne (by decide))).trans (if_neg (hne (by decide))))))
  exact absurd (Nat.le_trans h hle) (by decide)

/-- The class of a station follows from its address (R174). -/
theorem stationKind_iff (a : Nat) :
    ((kindAt a).getD .controller = .segment ↔ 1 ≤ a ∧ a ≤ 80) ∧ ((kindAt a).getD .controller = .drive ↔ a = 96) ∧
    ((kindAt a).getD .controller = .carriage ↔ a = 97 ∨ a = 98) ∧ ((kindAt a).getD .controller = .doffer ↔ a = 99) := by
  have hsmall : ∀ a < 100, ((kindAt a).getD .controller = .segment ↔ 1 ≤ a ∧ a ≤ 80) ∧
      ((kindAt a).getD .controller = .drive ↔ a = 96) ∧ ((kindAt a).getD .controller = .carriage ↔ a = 97 ∨ a = 98) ∧
      ((kindAt a).getD .controller = .doffer ↔ a = 99) := by decide
  by_cases h : a < 100
  · exact hsmall a h
  · have hne {n : Nat} (hn : n < 100) : ¬ a = n := fun he => h (he ▸ hn)
    rw [kindAt_of_large (Nat.le_of_not_lt h)]
    refine ⟨iff_of_false (by decide) fun hc => ?_, iff_of_false (by decide) (hne (by decide)),
      iff_of_false (by decide) fun hc => hc.elim (hne (by decide)) (hne (by decide)), iff_of_false (by decide) (hne (by decide))⟩
    exact h (Nat.lt_of_le_of_lt hc.2 (by decide))

/-- With every pass asked for taken, a READ_ROVING is a read like the others (log 18). -/
theorem exec_readRoving {h : ReqFrame} {s : State} (ht : s.takes h) (hasked : s.rm.asked = 0) :
    exec (.readRoving h) s = onSupply (plainRequest h 0x43 fun u => answerWith (.roving (rovingView u))) s := by
  have hawait : awaitForecast h s = s := by rw [awaitForecast, hasked]; exact ite_self s
  show onSupply (fun t => plainRequest h 0x43 _ (awaitForecast h t)) s = _
  rw [onSupply_powered _ _ ht.1, onSupply_powered _ _ ht.1, hawait]

theorem clearErrors_answered (s : State) (h : ReqFrame) (c : Nat) (a : Answer) (d : ReplyData) :
    clearErrors (s.answered h c a d) =
      { s.answered h c a d with lc.stations := s.lc.stations.map (fun e => { e with errors := 0 }) } :=
  congrArg (fun l : List Station => ({ s.answered h c a d with lc.stations := l.map (fun e => { e with errors := 0 }) } : State))
    (congrArg (fun l : LineControl => l.stations) (answered_lc ..))

theorem mem_unlistedOf {s : State} {side : Side} {n : Nat} :
    n ∈ unlistedOf s side ↔ 1 ≤ n ∧ n ≤ 1920 ∧ sideOf n = side ∧ (s.spindle n).listStatus = .unlisted := by
  refine List.mem_filter.trans ((and_congr mem_sideSpindles beq_iff_eq).trans ?_)
  rw [and_assoc, and_assoc]

end Sys2Proof.Machine
end

section
/-! SETTLED. The reads of the blocks. -/

namespace Sys2Proof.Machine

/-- Settles O29, read by read: each verdict's data is the block of the state judged, which is the state's own. -/
theorem readsOfTheBlocksChangeNothing : Obligations.ReadsOfTheBlocksChangeNothing := by
  unfold Obligations.ReadsOfTheBlocksChangeNothing
  intro h s ht
  refine ⟨fun k hs h₁ h₂ hf => argRead_next ht hs (fun _ _ _ => rfl) (if_pos ((namesSegment_iff ..).mpr ⟨h₁, h₂, hf⟩)),
    fun k hs hbad => argRefuse_next ht hs (if_neg ?noSegment), plainRead_next ht fun _ _ _ => rfl, fun side hs => ?list,
    fun side hs => argRead_next ht hs (fun _ _ _ => rfl) rfl,
    fun hs => ⟨argRefuse_next ht hs rfl, argRefuse_next ht hs rfl⟩, plainRead_next ht fun _ _ _ => rfl,
    plainRead_next ht fun _ _ _ => rfl, fun hasked => ?roving, plainRead_next ht fun _ _ _ => rfl,
    plainRead_next ht fun _ _ _ => rfl, plainRead_next ht fun _ _ _ => rfl, plainRead_next ht fun _ _ _ => rfl,
    fun hbusy => ?profile, fun hd => ?status, ?stations⟩
  case noSegment => rwa [judgedAt_namesSegment, namesSegment_iff]
  case list =>
    exact ⟨unlistedOf s side, (unlistedOf s side).filter (fun n => (s.spindle n).held), argRead_next ht hs (fun _ _ _ => rfl) rfl,
      (sideSpindles_nodup side).filter _, ((sideSpindles_nodup side).filter _).filter _, fun _ => mem_unlistedOf,
      fun _ => List.mem_filter⟩
  case roving =>
    exact (exec_readRoving ht hasked).trans (plainRead_next ht (d := fun u => .roving (rovingView u)) fun _ _ _ => rfl)
  case profile =>
    exact plainVerdict_next ht 
      (judge := unlessStoring fun t => answerWith (.profile t.ps.pendingCopy t.ps.inForce t.ps.source)) (fun _ _ _ => rfl)
      (if_neg fun h => Bool.noConfusion (hbusy.symm.trans h))
  case status =>
    have hread (clear : Bool) := plainRequest_next ht (code := 0x01)
      (judge := fun t =>
        { answer := .done, data := .status (statusView t),
          effect := if clear then modPortCounts (fun _ => PortCounts.zero) else id })
      (by rw [judgedAt_of_here hd])
    exact ⟨hread false, hread true⟩
  case stations =>
    have hread (clear : Bool) := plainVerdict_next ht (code := 0x52)
      (judge := fun t =>
        { answer := .done, data := .stations (t.lc.stations.map (stationView t)),
          effect := if clear then clearErrors else id })
      (fun _ _ _ => rfl) rfl
    refine ⟨s.lc.stations.map (stationView s), hread false, (hread true).trans ?_, List.length_map _, fun i e he => ?_⟩
    · exact congrArg Host.Outcome.next (clearErrors_answered ..)
    · exact ⟨stationView s e, (List.getElem?_map ..).trans (congrArg (Option.map _) he), rfl, rfl, rfl, rfl, rfl, rfl, rfl, rfl, rfl,
        rfl, stationKind_iff e.address⟩

end Sys2Proof.Machine
end

section
/-! SUPPORT. Sense Intake's comparison of a SAMPLE with its cells (R32, R33). -/

namespace Sys2Proof.Machine

/-! ### Cells and counters apart -/

@[simp] theorem modCell_cells_length (n : Nat) (f : Cell → Cell) (s : State) :
    (modCell n f s).si.cells.length = s.si.cells.length :=
  iteInduction (motive := fun t : State => t.si.cells.length = s.si.cells.length) (fun _ => rfl) fun _ => List.length_modify ..

@[simp] theorem modCounts_cells (k : Nat) (f : SegmentCounts → SegmentCounts) (s : State) :
    (modCounts k f s).si.cells = s.si.cells :=
  iteInduction (motive := fun t : State => t.si.cells = s.si.cells) (fun _ => rfl) fun _ => rfl

@[simp] theorem modCounts_segments_length (k : Nat) (f : SegmentCounts → SegmentCounts) (s : State) :
    (modCounts k f s).si.segments.length = s.si.segments.length :=
  iteInduction (motive := fun t : State => t.si.segments.length = s.si.segments.length) (fun _ => rfl) fun _ => List.length_modify ..

@[simp] theorem modCell_segments (n : Nat) (f : Cell → Cell) (s : State) : (modCell n f s).si.segments = s.si.segments :=
  iteInduction (motive := fun t : State => t.si.segments = s.si.segments) (fun _ => rfl) fun _ => rfl

@[simp] theorem cell_modCounts (k m : Nat) (f : SegmentCounts → SegmentCounts) (s : State) :
    (modCounts k f s).cell m = s.cell m :=
  iteInduction (motive := fun t : State => t.cell m = s.cell m) (fun _ => rfl) fun _ => rfl

@[simp] theorem counts_modCell (n j : Nat) (f : Cell → Cell) (s : State) : (modCell n f s).counts j = s.counts j :=
  iteInduction (motive := fun t : State => t.counts j = s.counts j) (fun _ => rfl) fun _ => rfl

/-- The step from one state to another touches the cells only. -/
def OnlyCells (s t : State) : Prop := t = { s with si := { s.si with cells := t.si.cells } }

/-- The step from one state to another touches the cells and the segments' counters only. -/
def OnlyIntake (s t : State) : Prop := t = { s with si := { s.si with cells := t.si.cells, segments := t.si.segments } }

theorem OnlyIntake.trans {s t u : State} (h₁ : OnlyIntake s t) (h₂ : OnlyIntake t u) : OnlyIntake s u := by
  unfold OnlyIntake at *
  rw [h₂, h₁]

theorem OnlyIntake.modCell (n : Nat) (f : Cell → Cell) (s : State) : OnlyIntake s (modCell n f s) :=
  iteInduction (motive := OnlyIntake s) (fun _ => rfl) fun _ => rfl

theorem OnlyIntake.modCounts (k : Nat) (f : SegmentCounts → SegmentCounts) (s : State) : OnlyIntake s (modCounts k f s) :=
  iteInduction (motive := OnlyIntake s) (fun _ => rfl) fun _ => rfl

theorem OnlyIntake.frame {s t : State} (h : OnlyIntake s t) : t = { s with si := t.si } := by
  unfold OnlyIntake at h
  rw [h]

theorem OnlyIntake.gate {s t : State} (h : OnlyIntake s t) : t.si.gate = s.si.gate ∧ t.si.settle = s.si.settle := by
  unfold OnlyIntake at h
  rw [h]
  exact ⟨rfl, rfl⟩

theorem OnlyCells.onlyIntake {s t : State} (h : OnlyCells s t) : OnlyIntake s t := by
  unfold OnlyCells at h
  unfold OnlyIntake
  rw [h]

theorem OnlyCells.counts {s t : State} (h : OnlyCells s t) (k : Nat) : t.counts k = s.counts k := by
  unfold OnlyCells at h
  unfold State.counts
  rw [h]

/-! ### Candidates cleared -/

theorem cell_outside {m : Nat} {s : State} (h : ¬ (1 ≤ m ∧ m ≤ s.si.cells.length)) : s.cell m = Cell.blank :=
  iteInduction (motive := fun c => c = Cell.blank) (fun _ => rfl) fun hm =>
    List.getD_eq_default _ _ (Nat.le_sub_one_of_lt (Nat.lt_of_not_le fun hle => h ⟨Nat.pos_of_ne_zero hm, hle⟩))

/-- Cells outside the table are blank, so a clearing of candidates reads the same for every number (log 25). -/
theorem cell_clearCandidate (n m : Nat) (s : State) :
    (modCell n (fun c => { c with candidate := none }) s).cell m =
      if m = n then { s.cell m with candidate := none } else s.cell m := by
  refine (cell_modCell ..).trans ?_
  by_cases hm : m = n
  · by_cases hin : 1 ≤ n ∧ n ≤ s.si.cells.length
    · rw [if_pos ⟨hm, hin⟩, if_pos hm]
    · rw [if_neg fun h => hin h.2, if_pos hm, cell_outside (hm ▸ hin)]
      rfl
  · rw [if_neg fun h => hm h.1, if_neg hm]

/-- Clearing the candidates of a segment touches its cells only (R32, R40). -/
theorem cell_clearCandidates (k m : Nat) (s : State) :
    (clearCandidates k s).cell m =
      if m ∈ segmentSpindles k then { s.cell m with candidate := none } else s.cell m := by
  unfold clearCandidates forEach
  induction segmentSpindles k generalizing s with
  | nil => rfl
  | cons n ns ih =>
    refine (ih _).trans ?_
    rw [cell_clearCandidate]
    by_cases hmn : m = n
    · rw [if_pos hmn, if_pos (List.mem_cons.mpr (.inl hmn))]
      exact ite_self _
    · rw [if_neg hmn, if_congr List.mem_cons rfl rfl, if_congr (or_iff_right hmn) rfl rfl]

theorem OnlyCells.trans {s t u : State} (h₁ : OnlyCells s t) (h₂ : OnlyCells t u) : OnlyCells s u := by
  unfold OnlyCells at *
  rw [h₂, h₁]

theorem OnlyCells.modCell (n : Nat) (f : Cell → Cell) (s : State) : OnlyCells s (modCell n f s) :=
  iteInduction (motive := OnlyCells s) (fun _ => rfl) fun _ => rfl

theorem OnlyCells.clearCandidates (k : Nat) (s : State) : OnlyCells s (clearCandidates k s) :=
  forEach_keeps (P := OnlyCells s)
    (fun n t ht => ht.trans (.modCell n _ t)) _ rfl

/-! ### One reading compared -/

/-- Whether a reading agrees with the latched value against a candidate: a flicker (R33). -/
def flickers (c : Cell) : Option Sense → Bool
  | some x => c.latched == some x && c.candidate.isSome
  | none => false

theorem compareCell_unread (c : Cell) (v : Option Sense) : (compareCell c v).unread = if v.isNone then 1 else 0 := by
  cases v with
  | none => rfl
  | some x =>
    exact iteInduction (motive := fun r : Compared => r.unread = 0) (fun _ => rfl) fun _ =>
      iteInduction (motive := fun r : Compared => r.unread = 0) (fun _ => rfl) fun _ => rfl

theorem compareCell_flicker (c : Cell) (v : Option Sense) : (compareCell c v).flicker = if flickers c v then 1 else 0 := by
  cases v with
  | none => rfl
  | some x =>
    refine iteInduction (motive := fun r : Compared => r.flicker = if flickers c (some x) then 1 else 0) (fun hl => ?_) fun hl => ?_
    · rw [flickers, hl, beq_self_eq_true, Bool.true_and]
    · rw [flickers, beq_eq_false_iff_ne.mpr hl]
      exact iteInduction (motive := fun r : Compared => r.flicker = 0) (fun _ => rfl) fun _ => rfl

theorem compareCell_cell (c : Cell) (v : Option Sense) :
    (compareCell c v).cell =
      match v with
      | none => c
      | some x =>
        if c.latched = some x then { latched := some x, candidate := none }
        else if c.candidate = some x then { latched := some x, candidate := none }
        else { latched := c.latched, candidate := some x } := by
  cases v with
  | none => rfl
  | some x =>
    show (compareCell c (some x)).cell = if _ then _ else _
    by_cases hl : c.latched = some x
    · rw [compareCell, if_pos hl, if_pos hl, hl]
    · rw [compareCell, if_neg hl, if_neg hl, apply_ite Compared.cell]

theorem compareCell_confirmed_iff (c : Cell) (v : Option Sense) (x : Sense) :
    (compareCell c v).confirmed = some x ↔ v = some x ∧ c.candidate = some x ∧ ¬ c.latched = some x := by
  have hno {p : Prop} (h : ¬ p) : (none : Option Sense) = some x ↔ p := ⟨fun he => absurd he.symm (Option.some_ne_none x), fun hp => absurd hp h⟩
  cases v with
  | none => exact hno fun h => Option.some_ne_none x h.1.symm
  | some y =>
    exact iteInduction (motive := fun r : Compared => r.confirmed = some x ↔ _)
      (fun hl => hno fun h => h.2.2 (hl.trans h.1)) fun hl =>
      iteInduction (motive := fun r : Compared => r.confirmed = some x ↔ _)
        (fun hc => ⟨fun he => ⟨he, hc.trans he, fun h => hl (h.trans he.symm)⟩, And.left⟩)
        fun hc => hno fun h => hc (h.2.1.trans h.1.symm)

theorem OnlyIntake.compareReading (k n : Nat) (v : Option Sense) (s : State) : OnlyIntake s (compareReading k n v s) :=
  (OnlyIntake.modCell n _ s).trans (.modCounts k _ _)

/-! ### All readings compared -/

theorem min_min_add (top x y : Nat) : min top (min top x + y) = min top (x + y) := by
  obtain h | h := Nat.le_total top x
  · rw [Nat.min_eq_left h, Nat.min_eq_left (Nat.le_add_right top y), Nat.min_eq_left (Nat.le_trans h (Nat.le_add_right x y))]
  · rw [Nat.min_eq_right h]

/-- A saturating counter raised by 1 at each element that counts. -/
theorem foldl_satAdd_countP {α : Type} (p : α → Bool) (top u : Nat) {l : List α} (hl : l ≠ []) :
    l.foldl (fun c x => satAdd top c (if p x then 1 else 0)) u = min top (u + l.countP p) := by
  induction l generalizing u with
  | nil => exact absurd rfl hl
  | cons x xs ih =>
    rw [List.countP_cons, Nat.add_comm (xs.countP p), ← Nat.add_assoc]
    by_cases hxs : xs = []
    · subst hxs; rfl
    · exact (ih _ hxs).trans (min_min_add ..)

/-- What the comparison of the readings of segment `k`, each of another spindle of the table, makes of `s` (R33). -/
structure ComparedAll (k : Nat) (readings : List (Nat × Option Sense)) (s t : State) : Prop where
  cell : ∀ r ∈ readings, t.cell r.1 = (compareCell (s.cell r.1) r.2).cell
  others : ∀ m, m ∉ readings.map (fun r => r.1) → t.cell m = s.cell m
  counts : t.counts k =
    { s.counts k with
      unread := readings.foldl (fun c r => satAdd top32 c (if r.2.isNone then 1 else 0)) (s.counts k).unread
      flicker := readings.foldl (fun c r => satAdd top32 c (if flickers (s.cell r.1) r.2 then 1 else 0)) (s.counts k).flicker }
  segments : ∀ j, ¬ j = k → t.counts j = s.counts j
  frame : OnlyIntake s t

theorem cell_compareReading {n : Nat} {s : State} (hn : 1 ≤ n ∧ n ≤ s.si.cells.length) (k : Nat) (v : Option Sense) (m : Nat) :
    (compareReading k n v s).cell m = if m = n then (compareCell (s.cell n) v).cell else s.cell m :=
  (cell_modCounts ..).trans ((cell_modCell ..).trans (if_congr (and_iff_left hn) rfl rfl))

theorem counts_compareReading_self {k : Nat} {s : State} (hk : 1 ≤ k ∧ k ≤ s.si.segments.length) (n : Nat) (v : Option Sense) :
    (compareReading k n v s).counts k =
      { s.counts k with
        unread := satAdd top32 (s.counts k).unread (if v.isNone then 1 else 0)
        flicker := satAdd top32 (s.counts k).flicker (if flickers (s.cell n) v then 1 else 0) } := by
  rw [← compareCell_unread (s.cell n), ← compareCell_flicker, ← counts_modCell n k (fun _ => (compareCell (s.cell n) v).cell) s]
  exact (counts_modCounts ..).trans (if_pos ⟨rfl, hk.1, by rw [modCell_segments]; exact hk.2⟩)

theorem counts_compareReading_other {k j : Nat} (hj : ¬ j = k) (n : Nat) (v : Option Sense) (s : State) :
    (compareReading k n v s).counts j = s.counts j :=
  (counts_modCounts ..).trans ((if_neg fun h => hj h.1).trans (counts_modCell ..))

theorem lengths_compareReading (k n : Nat) (v : Option Sense) (s : State) :
    (compareReading k n v s).si.cells.length = s.si.cells.length ∧
    (compareReading k n v s).si.segments.length = s.si.segments.length :=
  ⟨(congrArg List.length (modCounts_cells ..)).trans (modCell_cells_length ..),
    (modCounts_segments_length ..).trans (congrArg List.length (modCell_segments ..))⟩

theorem ComparedAll.foldl {k : Nat} {readings : List (Nat × Option Sense)} {s : State} (hk : 1 ≤ k ∧ k ≤ s.si.segments.length)
    (hin : ∀ r ∈ readings, 1 ≤ r.1 ∧ r.1 ≤ s.si.cells.length) (hnodup : (readings.map (fun r => r.1)).Nodup) :
    ComparedAll k readings s (readings.foldl (fun t r => compareReading k r.1 r.2 t) s) := by
  induction readings generalizing s with
  | nil => exact ⟨fun _ h => absurd h List.not_mem_nil, fun _ _ => rfl, rfl, fun _ _ => rfl, rfl⟩
  | cons r rest ih =>
    obtain ⟨hnot, hrest⟩ := List.nodup_cons.mp hnodup
    have hne {x} (hx : x ∈ rest) : ¬ x.1 = r.1 := fun he => hnot (List.mem_map.mpr ⟨x, hx, he⟩)
    have hcell := cell_compareReading (hin r List.mem_cons_self) k r.2
    obtain ⟨hcells, hsegments⟩ := lengths_compareReading k r.1 r.2 s
    obtain ⟨icell, iothers, icounts, isegments, iframe⟩ := ih (s := compareReading k r.1 r.2 s) ⟨hk.1, hsegments ▸ hk.2⟩
      (fun x hx => hcells ▸ hin x (List.mem_cons_of_mem _ hx)) hrest
    have hflick (c : Nat) :
        rest.foldl (fun c x => satAdd top32 c (if flickers ((compareReading k r.1 r.2 s).cell x.1) x.2 then 1 else 0)) c =
          rest.foldl (fun c x => satAdd top32 c (if flickers (s.cell x.1) x.2 then 1 else 0)) c :=
      List.foldl_ext _ _ _ fun c x hx => by rw [hcell, if_neg (hne hx)]
    refine ⟨List.forall_mem_cons.mpr ⟨(iothers _ hnot).trans ((hcell _).trans (if_pos rfl)), fun x hx => (icell x hx).trans ?_⟩,
      fun m hm => (iothers m fun h => hm (List.mem_cons_of_mem _ h)).trans ((hcell m).trans (if_neg fun h => hm (List.mem_cons.mpr (.inl h)))),
      icounts.trans ?_, fun j hj => (isegments j hj).trans (counts_compareReading_other hj ..),
      (OnlyIntake.compareReading k r.1 r.2 s).trans iframe⟩
    · rw [hcell, if_neg (hne hx)]
    · rw [counts_compareReading_self hk, hflick]
      rfl

/-! ### Confirmed changes leave Sense Intake -/

theorem OnlyTable.si {s t : State} (h : OnlyTable s t) : t.si = s.si := by rw [h]

@[simp] theorem si_removeFromDispatch (n : Nat) (s : State) : (removeFromDispatch n s).si = s.si :=
  ((OnlyTable.leaveDispatch n s).trans (.of_dispatchOnly (.afterRemoval _ _ _))).si

@[simp] theorem si_admitAndSelect (n : Nat) (s : State) : (admitAndSelect n s).si = s.si := by
  have hlist : (setListStatus n .unlisted s).si = s.si := modSpindle_si ..
  have hhand : (handForAdmission n s).si = s.si :=
    iteInduction (motive := fun t : State => t.si = s.si) (fun _ => hlist) fun _ =>
      iteInduction (motive := fun t : State => t.si = s.si)
        (fun _ => (OnlyTable.of_dispatchOnly (DispatchOnly.admitOne n s)).si) fun _ =>
        iteInduction (motive := fun t : State => t.si = s.si) (fun _ => hlist) fun _ => (raiseEvent_si ..).trans hlist
  exact iteInduction (motive := fun t : State => t.si = s.si)
    (fun _ => (OnlyTable.of_dispatchOnly (DispatchOnly.selectFor _ _)).si.trans hhand) fun _ => hhand

theorem si_confirmSpinning (n : Nat) (slow : Bool) (s : State) : (confirmSpinning n slow s).si = s.si := by
  have hspins : (spindleSpins n slow s).si = s.si := modSpindle_si ..
  unfold confirmSpinning
  cases (s.spindle n).state
  case spinning => exact modSpindle_si ..
  case offline | vacant => rfl
  all_goals exact (si_removeFromDispatch ..).trans hspins

theorem si_confirmEndDown (n : Nat) (s : State) : (confirmEndDown n s).si = s.si := by
  unfold confirmEndDown
  cases (s.spindle n).state
  case spinning => exact (si_admitAndSelect ..).trans (modSpindle_si ..)
  case unseen | starved => exact (si_admitAndSelect ..).trans (modSpindle_si ..)
  all_goals rfl

theorem si_confirmNoRoving (n : Nat) (s : State) : (confirmNoRoving n s).si = s.si := by
  have hstarve : (modSpindle n (goDown .starved s.dc.frameLength) s).si = s.si := modSpindle_si ..
  unfold confirmNoRoving
  cases (s.spindle n).state
  case servicing =>
    exact ((OnlyTable.of_dispatchOnly ((DispatchOnly.cancelPiece n _).trans (.afterRemoval ..))).si.trans
      (OnlyTable.leaveDispatch n _).si).trans hstarve
  case starved | rogue | offline | vacant => rfl
  all_goals exact (si_removeFromDispatch ..).trans hstarve

/-- A confirmed change goes to the record and its blocks: Sense Intake has made its own already (R37). -/
theorem confirmChange_si (n : Nat) (v : Sense) (s : State) : (confirmChange n v s).si = s.si := by
  cases v with
  | spinning => exact si_confirmSpinning n false s
  | lagging => exact si_confirmSpinning n true s
  | endDown => exact si_confirmEndDown n s
  | noRoving => exact si_confirmNoRoving n s

theorem confirmChanges_si (changes : List (Nat × Sense)) (s : State) :
    (changes.foldl (fun u c => confirmChange c.1 c.2 u) s).si = s.si :=
  List.foldlRecOn (motive := fun u => u.si = s.si) changes _ rfl (fun u hu c _ => (confirmChange_si c.1 c.2 u).trans hu)

/-! ### The readings of a SAMPLE -/

/-- The readings of a SAMPLE with the spindles they are of. -/
def readingsOf (k : Nat) (values : List (Option Sense)) : List (Nat × Option Sense) := (segmentSpindles k).zip values

/-- The readings of a SAMPLE, one for each spindle of the segment in ascending number. -/
theorem readings_eq {k : Nat} {values : List (Option Sense)} (hlen : values.length = 24) :
    readingsOf k values = (List.range 24).map (fun i => (24 * (k - 1) + 1 + i, values.getD i none)) := by
  unfold readingsOf
  apply List.ext_getElem
  · simp [segmentSpindles, hlen]
  · intro i h₁ h₂
    simp [segmentSpindles, List.getElem?_eq_getElem (show i < values.length by simpa [hlen] using h₂)]

/-- The confirmed changes stand in ascending spindle number (R37). -/
theorem confirmedChanges_ascending (s : State) {readings : List (Nat × Option Sense)}
    (h : (readings.map (fun r => r.1)).Pairwise (· < ·)) :
    ((confirmedChanges s readings).map (fun c => c.1)).Pairwise (· < ·) := by
  rw [List.pairwise_map] at h ⊢
  refine h.filterMap _ (fun a b hab x hx y hy => ?_)
  obtain ⟨_, -, rfl⟩ := Option.map_eq_some_iff.mp hx
  obtain ⟨_, -, rfl⟩ := Option.map_eq_some_iff.mp hy
  exact hab

theorem mem_confirmedChanges {s : State} {readings : List (Nat × Option Sense)} {m : Nat} {x : Sense} :
    (m, x) ∈ confirmedChanges s readings ↔
      (m, some x) ∈ readings ∧ (s.cell m).candidate = some x ∧ ¬ (s.cell m).latched = some x := by
  refine List.mem_filterMap.trans ⟨fun h => ?_, fun h => ?_⟩
  · obtain ⟨r, hr, hm⟩ := h
    obtain ⟨y, hy, he⟩ := Option.map_eq_some_iff.mp hm
    obtain ⟨rfl, rfl⟩ := Prod.mk.inj he
    obtain ⟨hv, hc⟩ := (compareCell_confirmed_iff ..).mp hy
    exact ⟨hv ▸ hr, hc⟩
  · exact ⟨_, h.1, Option.map_eq_some_iff.mpr ⟨x, (compareCell_confirmed_iff ..).mpr ⟨rfl, h.2⟩, rfl⟩⟩

end Sys2Proof.Machine
end

section
/-! SETTLED. A SAMPLE of 24 values (R32, R33, R35, R37). -/

namespace Sys2Proof.Machine

/-- With the gate not OPEN a SAMPLE clears its segment's candidates and is heard (R32). -/
theorem takeSample_gate_shut {k : Nat} {values : List (Option Sense)} {s : State} (hgate : ¬ s.si.gate = .opened) :
    takeSample k values s = clearCandidates k (modCounts k (fun c => { c with lastHeard := some s.dc.runClock }) s) :=
  if_neg hgate

/-- The counters of a SAMPLE that is compared (R35). -/
def sampleHeard (k : Nat) (s : State) : State :=
  modCounts k (fun c => { c with lastHeard := some s.dc.runClock })
    (modCounts k (fun c => { c with samples := satAdd top32 c.samples 1 }) s)

/-- The state after the comparison of a SAMPLE's readings (R33, R35). -/
def comparedSample (k : Nat) (values : List (Option Sense)) (s : State) : State :=
  (readingsOf k values).foldl (fun t r => compareReading k r.1 r.2 t) (sampleHeard k s)

/-- With the gate OPEN all readings are compared, and the confirmed changes then applied (R37). -/
theorem takeSample_gate_open {k : Nat} {values : List (Option Sense)} {s : State} (hgate : s.si.gate = .opened) :
    takeSample k values s =
      (confirmedChanges s (readingsOf k values)).foldl (fun t r => confirmChange r.1 r.2 t) (comparedSample k values s) :=
  if_pos hgate

theorem sampleHeard_counts {k : Nat} {s : State} (hk : 1 ≤ k ∧ k ≤ s.si.segments.length) (j : Nat) :
    (sampleHeard k s).counts j =
      if j = k then
        { s.counts j with samples := min 4294967295 ((s.counts j).samples + 1), lastHeard := some s.dc.runClock }
      else s.counts j := by
  have hin (t : State) (ht : t.si.segments.length = s.si.segments.length) (f : SegmentCounts → SegmentCounts) :
      (modCounts k f t).counts j = if j = k then f (t.counts j) else t.counts j :=
    (counts_modCounts ..).trans (if_congr (and_iff_left (ht.symm ▸ hk)) rfl rfl)
  refine (hin _ (modCounts_segments_length ..) _).trans ?_
  rw [hin s rfl]
  by_cases hj : j = k
  · rw [if_pos hj, if_pos hj, if_pos hj]
    rfl
  · rw [if_neg hj, if_neg hj, if_neg hj]

theorem cell_sampleHeard (k m : Nat) (s : State) : (sampleHeard k s).cell m = s.cell m :=
  (cell_modCounts ..).trans (cell_modCounts ..)

/-- The spindles of a segment are in the table (R2). -/
theorem segmentSpindle_in_table {k i : Nat} (hk : k ≤ 80) (hi : i < 24) :
    1 ≤ 24 * (k - 1) + 1 + i ∧ 24 * (k - 1) + 1 + i ≤ 1920 := by
  have hfirst : 24 * (k - 1) ≤ 24 * 79 := Nat.mul_le_mul_left 24 (Nat.sub_le_sub_right hk 1)
  exact ⟨Nat.le_trans (Nat.le_add_left 1 _) (Nat.le_add_right _ i),
    Nat.add_le_add (Nat.add_le_add_right hfirst 1) (Nat.le_of_lt_succ hi)⟩

/-- The readings that are UNREAD (R35). -/
theorem countP_unread {k : Nat} {values : List (Option Sense)} (hvalues : values.length = 24) :
    (readingsOf k values).countP (fun r => r.2.isNone) = values.countP (fun v => v.isNone) := by
  have hsnd : (readingsOf k values).map (fun r => r.2) = values :=
    List.map_snd_zip (by simp [segmentSpindles, hvalues])
  conv_rhs => rw [← hsnd, List.countP_map]
  rfl

/-- The readings that are flickers, by their place in the SAMPLE (R35). -/
theorem countP_flicker {k : Nat} {values : List (Option Sense)} (hvalues : values.length = 24) (cell : Nat → Cell) :
    (readingsOf k values).countP (fun r => flickers (cell r.1) r.2) =
      (List.range 24).countP (fun i =>
        match values[i]? with
        | some (some x) =>
          (cell (24 * (k - 1) + 1 + i)).latched == some x && (cell (24 * (k - 1) + 1 + i)).candidate.isSome
        | some none => false
        | none => false) := by
  rw [readings_eq hvalues, List.countP_map]
  refine List.countP_congr (fun i hi => ?_)
  have hlt : i < values.length := by simpa [hvalues] using hi
  simp only [Function.comp_apply, List.getD_eq_getElem?_getD, List.getElem?_eq_getElem hlt, Option.getD_some]
  cases values[i] <;> rfl

/-- The reading of a place of the SAMPLE is compared with the cell of that place's spindle. -/
theorem mem_readings {k : Nat} {values : List (Option Sense)} (hvalues : values.length = 24) {m : Nat} {v : Option Sense} :
    (m, v) ∈ readingsOf k values ↔ ∃ i < 24, m = 24 * (k - 1) + 1 + i ∧ values[i]? = some v := by
  have hget (i : Nat) (hi : i < 24) : values[i]? = some (values.getD i none) := by
    rw [List.getD_eq_getElem?_getD, List.getElem?_eq_getElem (hvalues.symm ▸ hi)]
    rfl
  rw [readings_eq hvalues, List.mem_map]
  constructor
  · rintro ⟨i, hi, he⟩
    obtain ⟨rfl, rfl⟩ := Prod.mk.inj he
    exact ⟨i, List.mem_range.mp hi, rfl, hget i (List.mem_range.mp hi)⟩
  · rintro ⟨i, hi, rfl, hv⟩
    exact ⟨i, List.mem_range.mpr hi, congrArg (Prod.mk _) (Option.some.inj ((hget i hi).symm.trans hv))⟩

theorem cell_congr {s t : State} (h : t.si = s.si) (m : Nat) : t.cell m = s.cell m := by
  unfold State.cell; rw [h]

theorem counts_congr {s t : State} (h : t.si = s.si) (k : Nat) : t.counts k = s.counts k := by
  unfold State.counts; rw [h]

section
variable {k : Nat} {values : List (Option Sense)} {s : State} (hvalues : values.length = 24)
include hvalues

theorem readings_spindles : (readingsOf k values).map (fun r => r.1) = segmentSpindles k :=
  List.map_fst_zip (Nat.le_of_eq ((List.length_map _).trans (List.length_range.trans hvalues.symm)))

theorem mem_confirmedChanges_readings {m : Nat} {x : Sense} : (m, x) ∈ confirmedChanges s (readingsOf k values) ↔
    ∃ i < 24, m = 24 * (k - 1) + 1 + i ∧ values[i]? = some (some x) ∧ (s.cell m).candidate = some x ∧
      ¬ (s.cell m).latched = some x := by
  refine mem_confirmedChanges.trans ⟨fun h => ?_, fun h => ?_⟩
  · obtain ⟨i, hi, he, hv⟩ := (mem_readings hvalues).mp h.1
    exact ⟨i, hi, he, hv, h.2⟩
  · obtain ⟨i, hi, he, hv, hc⟩ := h
    exact ⟨(mem_readings hvalues).mpr ⟨i, hi, he, hv⟩, hc⟩

theorem confirmedChanges_readings_ascending : ((confirmedChanges s (readingsOf k values)).map (fun c => c.1)).Pairwise (· < ·) := by
  refine confirmedChanges_ascending s ?_
  rw [readings_spindles hvalues, segmentSpindles, List.pairwise_map]
  exact List.pairwise_lt_range.imp (fun h => Nat.add_lt_add_left h _)

variable (hk : 1 ≤ k ∧ k ≤ 80) (hcells : s.si.cells.length = 1920) (hsegments : s.si.segments.length = 80)
include hk hcells hsegments

/-- The comparison of a SAMPLE's 24 readings (R33). -/
theorem comparedAll_sample : ComparedAll k (readingsOf k values) (sampleHeard k s) (comparedSample k values s) := by
  have hlen : (sampleHeard k s).si.cells.length = 1920 :=
    (congrArg List.length ((modCounts_cells ..).trans (modCounts_cells ..))).trans hcells
  have hlen' : (sampleHeard k s).si.segments.length = 80 :=
    (modCounts_segments_length ..).trans ((modCounts_segments_length ..).trans hsegments)
  refine ComparedAll.foldl ⟨hk.1, hk.2.trans_eq hlen'.symm⟩ (fun r hr => ?_)
    (by rw [readings_spindles hvalues]; exact segmentSpindles_nodup k)
  obtain ⟨i, hi, he, -⟩ := (mem_readings (v := r.2) hvalues).mp hr
  rw [hlen, he]
  exact segmentSpindle_in_table hk.2 hi

theorem cell_comparedSample {i : Nat} (hi : i < 24) {v : Option Sense} (hv : values[i]? = some v) :
    (comparedSample k values s).cell (24 * (k - 1) + 1 + i) = (compareCell (s.cell (24 * (k - 1) + 1 + i)) v).cell :=
  ((comparedAll_sample hvalues hk hcells hsegments).cell _ ((mem_readings hvalues).mpr ⟨i, hi, rfl, hv⟩)).trans
    (congrArg (fun c => (compareCell c v).cell) (cell_sampleHeard ..))

theorem counts_comparedSample : (comparedSample k values s).counts k =
    { samples := min 4294967295 ((s.counts k).samples + 1), lastHeard := some s.dc.runClock
      unread := min 4294967295 ((s.counts k).unread + values.countP (fun v => v.isNone))
      flicker := min 4294967295 ((s.counts k).flicker + (readingsOf k values).countP (fun r => flickers (s.cell r.1) r.2)) } := by
  have hne : readingsOf k values ≠ [] :=
    List.ne_nil_of_mem ((mem_readings hvalues).mpr ⟨0, Nat.succ_pos 23, rfl, List.getElem?_eq_getElem (hvalues.symm ▸ Nat.succ_pos 23)⟩)
  rw [(comparedAll_sample hvalues hk hcells hsegments).counts, sampleHeard_counts ⟨hk.1, hsegments.symm ▸ hk.2⟩, if_pos rfl]
  simp only [foldl_satAdd_countP _ _ _ hne, countP_unread hvalues, cell_sampleHeard, top32]

end

/-! ### The gate shut -/

/-- A SAMPLE with the gate not OPEN (R32). -/
def sampleShut (k : Nat) (s : State) : State :=
  clearCandidates k (modCounts k (fun c => { c with lastHeard := some s.dc.runClock }) s)

theorem OnlyIntake.sampleShut (k : Nat) (s : State) : OnlyIntake s (sampleShut k s) :=
  (OnlyIntake.modCounts k _ s).trans (OnlyCells.clearCandidates k _).onlyIntake

theorem counts_sampleShut {k : Nat} {s : State} (hk : 1 ≤ k ∧ k ≤ s.si.segments.length) (j : Nat) :
    (sampleShut k s).counts j = if j = k then { s.counts j with lastHeard := some s.dc.runClock } else s.counts j :=
  ((OnlyCells.clearCandidates k _).counts j).trans ((counts_modCounts ..).trans (if_congr (and_iff_left hk) rfl rfl))

theorem cell_sampleShut (k m : Nat) (s : State) : (sampleShut k s).cell m =
    if m ∈ segmentSpindles k then { latched := (s.cell m).latched, candidate := none } else s.cell m := by
  rw [← cell_modCounts k m (fun c => { c with lastHeard := some s.dc.runClock }) s]
  exact cell_clearCandidates k m _

/-- Settles O33: shut, the gate lets `clearCandidates` act alone; OPEN, `ComparedAll` gives cells and counters, and the confirmed
changes leave them. -/
theorem samplesConfirmOnTheSecondAgreeingValue : Obligations.SamplesConfirmOnTheSecondAgreeingValue := by
  unfold Obligations.SamplesConfirmOnTheSecondAgreeingValue
  intro k values s hk₁ hk₂ hvalues hcells hsegments
  have hk : 1 ≤ k ∧ k ≤ s.si.segments.length := ⟨hk₁, hsegments.symm ▸ hk₂⟩
  refine ⟨fun hgate => ?shut, fun hgate => ?opened⟩
  case shut =>
    have ht : takeSample k values s = sampleShut k s := takeSample_gate_shut hgate
    rw [ht]
    exact ⟨(OnlyIntake.sampleShut k s).frame, (counts_sampleShut hk k).trans (if_pos rfl),
      fun i hi => (cell_sampleShut ..).trans (if_pos (mem_segmentSpindles.mpr ⟨i, hi, rfl⟩)),
      fun m hm => (cell_sampleShut ..).trans (if_neg hm), fun j hj => (counts_sampleShut hk j).trans (if_neg hj),
      (OnlyIntake.sampleShut k s).gate⟩
  case opened =>
    have hall := comparedAll_sample hvalues ⟨hk₁, hk₂⟩ hcells hsegments
    have ht := takeSample_gate_open (k := k) (values := values) hgate
    have hsi : (takeSample k values s).si = (comparedSample k values s).si := by rw [ht, confirmChanges_si]
    have hcount := (counts_congr hsi k).trans (counts_comparedSample hvalues ⟨hk₁, hk₂⟩ hcells hsegments)
    refine ⟨congrArg SegmentCounts.samples hcount, congrArg SegmentCounts.lastHeard hcount, congrArg SegmentCounts.unread hcount,
      (congrArg SegmentCounts.flicker hcount).trans (congrArg (fun c => min 4294967295 ((s.counts k).flicker + c)) (countP_flicker hvalues s.cell)),
      fun i hi v hv => (cell_congr hsi _).trans (cell_comparedSample hvalues ⟨hk₁, hk₂⟩ hcells hsegments hi hv) |>.trans (compareCell_cell ..),
      fun m hm => (cell_congr hsi m).trans ((hall.others m ((readings_spindles hvalues).symm ▸ hm)).trans (cell_sampleHeard ..)),
      fun j hj => (counts_congr hsi j).trans ((hall.segments j hj).trans ((sampleHeard_counts hk j).trans (if_neg hj))),
      confirmedChanges s (readingsOf k values), fun m x => mem_confirmedChanges_readings hvalues,
      confirmedChanges_readings_ascending hvalues, ht.trans ?_⟩
    rw [hsi, ← (((OnlyIntake.modCounts k _ s).trans (.modCounts k _ _)).trans hall.frame).frame]

end Sys2Proof.Machine
end

section
/-! SUPPORT. A raise and its NOTICE: what the Event Unit and the own queue show after it (R203). -/

namespace Sys2Proof.Machine

theorem event_congr {s t : State} (h : t.events = s.events) (c : Nat) : t.event c = s.event c := by
  unfold State.event; rw [h]

/-! ### Notices -/

/-- A notice touches the classes and the own queue only. -/
def OnlyNotices (s t : State) : Prop :=
  t = { s with events := t.events, ml := { s.ml with own := t.ml.own, ownSeq := t.ml.ownSeq } }

namespace OnlyNotices

theorem refl (s : State) : OnlyNotices s s := rfl

theorem trans {s t u : State} (h₁ : OnlyNotices s t) (h₂ : OnlyNotices t u) : OnlyNotices s u := by
  unfold OnlyNotices at *
  rw [h₂, h₁]

theorem clock {s t : State} (h : OnlyNotices s t) : t.frameNumber = s.frameNumber ∧ t.dc = s.dc := by
  unfold OnlyNotices at h
  rw [h]
  exact ⟨rfl, rfl⟩

theorem queueNotice (c : Nat) (s : State) : OnlyNotices s (queueNotice c s) := rfl

theorem raiseEvent (id : EventId) (d : Nat) (s : State) : OnlyNotices s (raiseEvent id d s) :=
  iteInduction (motive := OnlyNotices s) (fun _ => iteInduction (motive := OnlyNotices s) (fun _ => rfl) fun _ => rfl) fun _ => rfl

end OnlyNotices

theorem event_queueNotice (c d : Nat) (s : State) :
    (queueNotice c s).event d =
      if d = c ∧ c < s.events.length then { s.event d with pending := false, given := true } else s.event d :=
  event_modEvent c d _ (originate _ s)

theorem length_events_modEvent (c : Nat) (f : EventClass → EventClass) (s : State) :
    (modEvent c f s).events.length = s.events.length := List.length_modify ..

theorem length_events_raiseEvent (id : EventId) (d : Nat) (s : State) :
    (raiseEvent id d s).events.length = s.events.length :=
  iteInduction (motive := fun t : State => t.events.length = s.events.length)
    (fun _ => iteInduction (motive := fun t : State => t.events.length = s.events.length)
      (fun _ => (length_events_modEvent ..).trans (length_events_modEvent ..))
      fun _ => (length_events_modEvent ..).trans (length_events_modEvent ..))
    fun _ => length_events_modEvent ..

/-- The mark of a NOTICE is all it makes of its class. -/
theorem event_admitNotice_self (c d : Nat) (s : State) :
    ∃ pending given, (admitNotice c s).event d = { s.event d with pending := pending, given := given } := by
  unfold admitNotice
  split
  · rw [event_queueNotice]
    split <;> exact ⟨_, _, rfl⟩
  · rw [event_modEvent]
    split <;> exact ⟨_, _, rfl⟩

theorem event_admitNotice_other {c d : Nat} (h : ¬ d = c) (s : State) : (admitNotice c s).event d = s.event d :=
  iteInduction (motive := fun t : State => t.event d = s.event d)
    (fun _ => (event_queueNotice ..).trans (if_neg fun hc => h hc.1))
    fun _ => (event_modEvent ..).trans (if_neg fun hc => h hc.1)

/-! ### A raise -/

/-- A class raised: its flag, its count and its detail. -/
def raised (d : Nat) (e : EventClass) : EventClass := { e with flag := true, count := satAdd 255 e.count 1, detail := d }

/-- A raise of a class that is flagged already, or masked, touches its class only. -/
theorem raiseEvent_unnoticed {id : EventId} (d : Nat) {s : State}
    (h : ¬ ((s.event id.num).flag = false ∧ (s.event id.num).mask = true)) :
    raiseEvent id d s = modEvent id.num (raised d) s :=
  if_neg fun hc => h (by simpa using hc)

/-- A raise of a class that is clear and unmasked: its NOTICE is queued, or pending. -/
theorem raiseEvent_admitted {id : EventId} (d : Nat) {s : State}
    (h : (s.event id.num).flag = false ∧ (s.event id.num).mask = true) :
    raiseEvent id d s = admitNotice id.num (modEvent id.num (raised d) s) :=
  if_pos (by simpa using h)

/-- A raise sets its class's flag, counts and takes the detail (R203). -/
theorem event_raiseEvent_self (id : EventId) (d : Nat) {s : State} (h : id.num < s.events.length) :
    ((raiseEvent id d s).event id.num).flag = true ∧ ((raiseEvent id d s).event id.num).detail = d ∧
    ((raiseEvent id d s).event id.num).count = min 255 ((s.event id.num).count + 1) := by
  have hraised : (modEvent id.num (raised d) s).event id.num = raised d (s.event id.num) :=
    (event_modEvent ..).trans (if_pos ⟨rfl, h⟩)
  by_cases hc : (s.event id.num).flag = false ∧ (s.event id.num).mask = true
  · obtain ⟨_, _, hadmitted⟩ := event_admitNotice_self id.num id.num (modEvent id.num (raised d) s)
    rw [raiseEvent_admitted d hc, hadmitted, hraised]
    exact ⟨rfl, rfl, rfl⟩
  · rw [raiseEvent_unnoticed d hc, hraised]
    exact ⟨rfl, rfl, rfl⟩

/-- A raise leaves every other class. -/
theorem event_raiseEvent_other {id : EventId} {c : Nat} (h : ¬ c = id.num) (d : Nat) (s : State) :
    (raiseEvent id d s).event c = s.event c := by
  have hraised : (modEvent id.num (raised d) s).event c = s.event c := (event_modEvent ..).trans (if_neg fun hc => h hc.1)
  by_cases hc : (s.event id.num).flag = false ∧ (s.event id.num).mask = true
  · rw [raiseEvent_admitted d hc]
    exact (event_admitNotice_other h _).trans hraised
  · rw [raiseEvent_unnoticed d hc, hraised]

/-- A raise may put one NOTICE in the own queue, and touches nothing of the mill link besides (R203). -/
theorem raiseEvent_ml (id : EventId) (d : Nat) (s : State) :
    ∃ (notice : List OwnFrame) (seq : Nat), notice.length ≤ 1 ∧
      (raiseEvent id d s).ml = { s.ml with own := s.ml.own ++ notice, ownSeq := seq } := by
  have hsame : s.ml = { s.ml with own := s.ml.own ++ [], ownSeq := s.ml.ownSeq } := by rw [List.append_nil]
  exact iteInduction (motive := fun t : State => ∃ (notice : List OwnFrame) (seq : Nat), notice.length ≤ 1 ∧
      t.ml = { s.ml with own := s.ml.own ++ notice, ownSeq := seq })
    (fun _ => iteInduction (motive := fun t : State => ∃ (notice : List OwnFrame) (seq : Nat), notice.length ≤ 1 ∧
        t.ml = { s.ml with own := s.ml.own ++ notice, ownSeq := seq })
      (fun _ => ⟨[_], _, Nat.le_refl 1, rfl⟩) fun _ => ⟨[], _, Nat.zero_le 1, hsame⟩)
    fun _ => ⟨[], _, Nat.zero_le 1, hsame⟩

theorem raiseEvent_ml_recipe (id : EventId) (d : Nat) (s : State) : (raiseEvent id d s).ml.recipe = s.ml.recipe := by
  obtain ⟨_, _, -, h⟩ := raiseEvent_ml id d s
  rw [h]

end Sys2Proof.Machine
end

section
/-! SUPPORT. What dispatch leaves of the lists: every entry stands in its place, and a verify window is touched only at its entry's
leaving VERIFYING; and what selection makes of the carriage (R77 to R80). -/

namespace Sys2Proof.Machine

/-! ### Entries in their places -/

/-- Every entry of every list stands in its place, and one that is VERIFYING was so before, with the window it has. -/
def EntriesKept (s t : State) : Prop :=
  ∀ x, ∃ f : Entry → Entry, t.list x = (s.list x).map f ∧
    ∀ e, (f e).spindle = e.spindle ∧ ((f e).status = .verifying → e.status = .verifying ∧ (f e).window = e.window)

namespace EntriesKept

theorem of_list {s t : State} (h : ∀ x, t.list x = s.list x) : EntriesKept s t :=
  fun x => ⟨id, by rw [h, List.map_id], fun _ => ⟨rfl, fun hv => ⟨hv, rfl⟩⟩⟩

theorem refl (s : State) : EntriesKept s s := .of_list fun _ => rfl

theorem trans {s t u : State} (h₁ : EntriesKept s t) (h₂ : EntriesKept t u) : EntriesKept s u := by
  intro x
  obtain ⟨f, hf, qf⟩ := h₁ x
  obtain ⟨g, hg, qg⟩ := h₂ x
  refine ⟨g ∘ f, by rw [hg, hf, List.map_map], fun e => ⟨(qg _).1.trans (qf e).1, fun hv => ?_⟩⟩
  obtain ⟨hv₁, hw₁⟩ := (qg _).2 hv
  obtain ⟨hv₂, hw₂⟩ := (qf e).2 hv₁
  exact ⟨hv₂, hw₁.trans hw₂⟩

theorem length {s t : State} (h : EntriesKept s t) (x : Side) : (t.list x).length = (s.list x).length := by
  obtain ⟨f, hf, -⟩ := h x
  rw [hf, List.length_map]

theorem sides {s t : State} (h : EntriesKept s t) {x : Side} (hs : ∀ e ∈ s.list x, sideOf e.spindle = x) :
    ∀ e ∈ t.list x, sideOf e.spindle = x := by
  obtain ⟨f, hf, qf⟩ := h x
  intro e he
  rw [hf, List.mem_map] at he
  obtain ⟨g, hg, rfl⟩ := he
  rw [(qf g).1]
  exact hs g hg

/-- Windows that all VERIFYING entries have stay. -/
theorem windows {s t : State} (h : EntriesKept s t) {w : Option Timer} {x : Side}
    (hs : ∀ e ∈ s.list x, e.status = .verifying → e.window = w) : ∀ e ∈ t.list x, e.status = .verifying → e.window = w := by
  obtain ⟨f, hf, qf⟩ := h x
  intro e he hv
  rw [hf, List.mem_map] at he
  obtain ⟨g, hg, rfl⟩ := he
  obtain ⟨hv', hw⟩ := (qf g).2 hv
  exact hw.trans (hs g hg hv')

theorem modEntry {n : Nat} {f : Entry → Entry} (hn : ∀ e, (f e).spindle = e.spindle) (hv : ∀ e, ¬ (f e).status = .verifying)
    (s : State) : EntriesKept s (modEntry n f s) := by
  intro x
  rw [list_modEntry]
  split
  · refine ⟨_, rfl, fun e => ?_⟩
    split
    · exact ⟨hn e, fun h => absurd h (hv e)⟩
    · exact ⟨rfl, fun h => ⟨h, rfl⟩⟩
  · exact EntriesKept.refl s x

theorem assignPiece (side : Side) (n : Nat) (s : State) : EntriesKept s (assignPiece side n s) := by
  have hmod := EntriesKept.modEntry (n := n) (f := fun e => { e with status := .assigned, carriage := some side })
    (fun _ => rfl) (fun _ => by simp) s
  refine hmod.trans (.of_list fun x => ?_)
  simp only [Machine.assignPiece, list_placeOrder, list_modCarriage, list_modSpindle]

theorem selectFor (side : Side) (s : State) : EntriesKept s (selectFor side s) :=
  selectFor_keeps (P := EntriesKept s) (fun _ ht => ht.trans (.of_list fun _ => rfl))
    (fun _ e _ ht _ _ => ht.trans (.assignPiece side e.spindle _)) s (.refl s)

theorem selectBoth (s : State) : EntriesKept s (selectBoth s) := (selectFor .A s).trans (selectFor .B _)

theorem takeBackPiece (side : Side) (s : State) : EntriesKept s (takeBackPiece side s) := by
  unfold Machine.takeBackPiece
  split
  · next n _ =>
    have hdown : EntriesKept s (modSpindle n (fun p => { p with state := .down, listStatus := .waiting }) s) :=
      .of_list fun x => list_modSpindle ..
    exact hdown.trans (EntriesKept.modEntry (n := n) (f := fun e => { e with status := .waiting, carriage := none })
      (fun _ => rfl) (fun _ => by simp) _)
  · exact .refl s

theorem parkCarriage (side : Side) (s : State) : EntriesKept s (parkCarriage side s) := by
  have hplace (t : State) : EntriesKept t (placeOrder side .park t) := .of_list fun _ => rfl
  unfold Machine.parkCarriage
  split
  · exact hplace s
  · exact (takeBackPiece side s).trans (hplace _)
  · exact (takeBackPiece side s).trans (hplace _)
  all_goals exact .refl s

end EntriesKept

/-! ### Carriages -/

theorem carriage_assignPiece_other {side x : Side} (h : ¬ x = side) (n : Nat) (s : State) :
    (assignPiece side n s).carriage x = s.carriage x :=
  (carriage_modCarriage ..).trans ((if_neg h).trans ((carriage_modCarriage ..).trans ((if_neg h).trans (carriage_modSpindle ..))))

/-- A carriage given a PIECE is ASSIGNED with it in its slot (R80, R92). -/
theorem assignPiece_gives (side : Side) (n : Nat) (s : State) :
    ((assignPiece side n s).carriage side).state = .assigned ∧
    ((assignPiece side n s).carriage side).slot =
      some { kind := .piece n (positionOf n), number := (s.carriage side).nextNumber, collected := false } := by
  have hgive {t : State} (h : t.carriage side = s.carriage side) (f : Carriage → Carriage)
      (hf : (f (s.carriage side)).nextNumber = (s.carriage side).nextNumber) :
      ((placeOrder side (.piece n (positionOf n)) (modCarriage side f t)).carriage side).state = .assigned ∧
      ((placeOrder side (.piece n (positionOf n)) (modCarriage side f t)).carriage side).slot =
        some { kind := .piece n (positionOf n), number := (s.carriage side).nextNumber, collected := false } := by
    rw [placeOrder, carriage_modCarriage_self, carriage_modCarriage_self, h, ← hf]
    exact ⟨rfl, rfl⟩
  exact hgive (carriage_modSpindle n (fun q => { q with state := .servicing, listStatus := .assigned }) side
      (modEntry n (fun e => { e with status := .assigned, carriage := some side }) s))
    (fun c => { c with direction := c.direction.toward c.position (positionOf n) }) rfl

/-- Selection for one carriage leaves the other. -/
theorem carriage_selectFor_other {side x : Side} (h : ¬ x = side) (s : State) :
    (selectFor side s).carriage x = s.carriage x :=
  selectFor_keeps (P := fun t => t.carriage x = s.carriage x)
    (fun _ ht => (carriage_modCarriage ..).trans ((if_neg h).trans ht))
    (fun _ _ _ ht _ _ => (carriage_assignPiece_other h ..).trans ht) s rfl

/-- Selection for one side leaves the other's list, its own entries being of the side. -/
theorem list_selectFor_other {side x : Side} (h : ¬ x = side) {s : State} (hs : ∀ e ∈ s.list side, sideOf e.spindle = side) :
    (selectFor side s).list x = s.list x := by
  refine (selectFor_keeps (P := fun t => t.list x = s.list x ∧ ∀ e ∈ t.list side, sideOf e.spindle = side)
    (fun t ht => ht) (fun t e he ht _ _ => ?_) s ⟨rfl, hs⟩).1
  obtain ⟨hx, hside⟩ := ht
  refine ⟨?_, (EntriesKept.assignPiece side e.spindle t).sides hside⟩
  rw [← hx]
  simp only [assignPiece, list_placeOrder, list_modCarriage, list_modSpindle]
  rw [list_modEntry, if_neg (by rw [hside e he]; exact h)]

/-! ### What selection comes to -/

/-- Both sweeps reach every position between them. -/
theorem reaches_either (d : Direction) (c p : Nat) : d.reaches c p = true ∨ d.reverse.reaches c p = true := by
  cases d with
  | up => exact (Nat.le_total c p).imp decide_eq_true decide_eq_true
  | down => exact (Nat.le_total p c).imp decide_eq_true decide_eq_true

theorem mem_of_leastBy {before : Entry → Entry → Bool} {p : Entry → Bool} {l : List Entry} {e : Entry}
    (h : leastBy before (l.filter p) = some e) : e ∈ l ∧ p e = true := List.mem_filter.mp (leastBy_mem h)

theorem false_of_leastBy_eq_none {before : Entry → Entry → Bool} {p : Entry → Bool} {l : List Entry}
    (h : leastBy before (l.filter p) = none) {e : Entry} (he : e ∈ l) : p e = false :=
  Bool.eq_false_of_not_eq_true (List.filter_eq_nil_iff.mp (leastBy_eq_none.mp h) e he)

/-- An entry that the age override chooses (R78). -/
theorem agedChoice_some {side : Side} {s : State} {e : Entry} (h : agedChoice side s = some e) :
    e ∈ s.list side ∧ e.status = .waiting :=
  (mem_of_leastBy h).imp id fun hp => eq_of_beq (Bool.and_eq_true_iff.mp hp).1

/-- An entry that a sweep chooses (R79). -/
theorem sweepChoice_some {side : Side} {d : Direction} {s : State} {e : Entry} (h : sweepChoice side d s = some e) :
    e ∈ s.list side ∧ e.status = .waiting :=
  (mem_of_leastBy h).imp id fun hp => eq_of_beq (Bool.and_eq_true_iff.mp (Bool.and_eq_true_iff.mp hp).1).1

/-- A sweep that chooses nothing leaves no WAITING entry within its reach that is not passed over (R79). -/
theorem sweepChoice_none {side : Side} {d : Direction} {s : State} (h : sweepChoice side d s = none) {e : Entry}
    (he : e ∈ s.list side) (hw : e.status = .waiting)
    (hr : d.reaches (s.carriage side).position (positionOf e.spindle) = true) : e.passedOver = true := by
  have hp := false_of_leastBy_eq_none h he
  rw [hw, hr, Bool.and_true, beq_self_eq_true, Bool.true_and, Bool.not_eq_false'] at hp
  exact hp

/-- A carriage has been given the PIECE of a WAITING entry of its side (R80). -/
def GivenPiece (side : Side) (s t : State) : Prop :=
  (t.carriage side).state = .assigned ∧
  ∃ e ∈ s.list side, e.status = .waiting ∧ (t.carriage side).slot =
    some { kind := .piece e.spindle (positionOf e.spindle), number := (s.carriage side).nextNumber, collected := false }

theorem givenPiece_assignPiece {side : Side} {s t : State} (hn : (t.carriage side).nextNumber = (s.carriage side).nextNumber)
    {e : Entry} (he : e ∈ s.list side ∧ e.status = .waiting) : GivenPiece side s (assignPiece side e.spindle t) := by
  have h := assignPiece_gives side e.spindle t
  rw [hn] at h
  exact ⟨h.1, e, he.1, he.2, h.2⟩

/-- Every WAITING entry of a side is passed over, and none has waited its age. -/
def NoneOpen (side : Side) (s : State) : Prop :=
  ∀ e ∈ s.list side, e.status = .waiting → e.passedOver = true ∧ s.aged e = false

/-- The carriage of a side turned to sweep the other way (R79). -/
def turned (side : Side) (s : State) : State := modCarriage side (fun c => { c with direction := c.direction.reverse }) s

theorem carriage_turned (side : Side) (s : State) :
    (turned side s).carriage side = { s.carriage side with direction := (s.carriage side).direction.reverse } :=
  carriage_modCarriage_self ..

theorem list_turned (side : Side) (s : State) : (turned side s).list side = s.list side := list_modCarriage ..

/-- Nothing chosen, not by age nor by either sweep: every WAITING entry is passed over and young. -/
theorem noneOpen_of_no_choice {side : Side} {s : State} (haged : agedChoice side s = none)
    (hahead : sweepChoice side (s.carriage side).direction s = none)
    (hback : sweepChoice side ((turned side s).carriage side).direction (turned side s) = none) : NoneOpen side s := by
  intro e he hw
  refine ⟨?_, false_of_leastBy_eq_none haged he⟩
  refine (reaches_either (s.carriage side).direction (s.carriage side).position (positionOf e.spindle)).elim
    (sweepChoice_none hahead he hw) fun h => sweepChoice_none hback ((list_turned side s).symm ▸ he) hw ?_
  rw [carriage_turned]
  exact h

/-- A carriage that may be given a PIECE is given one for a WAITING entry, or no WAITING entry has waited its age and all of them
are passed over (R77 to R80). -/
theorem selectFor_outcome {side : Side} {s : State} (hd : dispatchable side s = true) :
    GivenPiece side s (selectFor side s) ∨ (selectFor side s = turned side s ∧ NoneOpen side s) := by
  have hnext : ((turned side s).carriage side).nextNumber = (s.carriage side).nextNumber :=
    (congrArg Carriage.nextNumber (carriage_turned side s)).trans rfl
  cases haged : agedChoice side s with
  | some e =>
    rw [selectFor, if_pos hd, haged]
    exact .inl (givenPiece_assignPiece rfl (agedChoice_some haged))
  | none =>
    cases hahead : sweepChoice side (s.carriage side).direction s with
    | some e =>
      rw [selectFor, if_pos hd, haged, hahead]
      exact .inl (givenPiece_assignPiece rfl (sweepChoice_some hahead))
    | none =>
      have hsel : selectFor side s = match sweepChoice side ((turned side s).carriage side).direction (turned side s) with
          | some e => assignPiece side e.spindle (turned side s)
          | none => turned side s := by
        rw [selectFor, if_pos hd, haged, hahead]
        rfl
      rw [hsel]
      cases hback : sweepChoice side ((turned side s).carriage side).direction (turned side s) with
      | some e => exact .inl (givenPiece_assignPiece hnext ((sweepChoice_some hback).imp ((list_turned side s) ▸ ·) id))
      | none => exact .inr ⟨rfl, noneOpen_of_no_choice haged hahead hback⟩

end Sys2Proof.Machine
end

section
/-! SUPPORT. The gate's opening: its own effect on the windows, and the selection that follows (R29, R77, R83). -/

namespace Sys2Proof.Machine

@[simp] theorem list_modAllEntries (f : Entry → Entry) (x : Side) (s : State) :
    (modAllEntries f s).list x = (s.list x).map f := by cases x <;> rfl

/-- The window of an entry as the gate opens (R83). -/
def loadedWindow (seconds : Nat) (e : Entry) : Entry :=
  if e.status = .verifying then { e with window := some (Timer.load (ms seconds)) } else e

theorem list_openGate (x : Side) (s : State) : (openGate s).list x = (s.list x).map (loadedWindow s.ml.recipe.verifyWindow) :=
  list_modAllEntries ..

@[simp] theorem openGate_si (s : State) :
    (openGate s).si = { s.si with gate := .opened, settle := { left := s.si.settle.left, running := false } } := rfl

/-- The gate's opening touches Sense Intake and the windows only. -/
theorem openGate_eq (s : State) : openGate s = { s with si := (openGate s).si, pd := (openGate s).pd } := rfl

@[simp] theorem openGate_carriage (x : Side) (s : State) : (openGate s).carriage x = s.carriage x := rfl

theorem loadedWindow_same (seconds : Nat) (e : Entry) :
    (loadedWindow seconds e).spindle = e.spindle ∧ (loadedWindow seconds e).status = e.status ∧
    (loadedWindow seconds e).passedOver = e.passedOver ∧ (loadedWindow seconds e).admittedAt = e.admittedAt := by
  refine iteInduction (motive := fun f : Entry => f.spindle = e.spindle ∧ f.status = e.status ∧
    f.passedOver = e.passedOver ∧ f.admittedAt = e.admittedAt) (fun _ => ?_) fun _ => ?_ <;> exact ⟨rfl, rfl, rfl, rfl⟩

/-- With the gate just OPEN every VERIFYING entry's window is loaded and runs (R83). -/
theorem openGate_windows {x : Side} {s : State} :
    ∀ e ∈ (openGate s).list x, e.status = .verifying →
      e.window = some { left := s.ml.recipe.verifyWindow * 1000, running := true } := by
  intro e he hv
  rw [list_openGate, List.mem_map] at he
  obtain ⟨g, -, rfl⟩ := he
  rw [(loadedWindow_same _ g).2.1] at hv
  unfold loadedWindow
  rw [if_pos hv]
  rfl

section
variable (s : State)

/-- The gate's opening with its selection leaves Sense Intake as the gate leaves it. -/
theorem openGateSelect_si : (openGateSelect s).si = (openGate s).si := (OnlyTable.of_dispatchOnly (.selectBoth (openGate s))).si

theorem openGateSelect_windows (x : Side) : ∀ e ∈ (openGateSelect s).list x, e.status = .verifying →
    e.window = some { left := s.ml.recipe.verifyWindow * 1000, running := true } :=
  (EntriesKept.selectBoth (openGate s)).windows openGate_windows

theorem openGateSelect_length (x : Side) : ((openGateSelect s).list x).length = (s.list x).length :=
  ((EntriesKept.selectBoth (openGate s)).length x).trans ((congrArg List.length (list_openGate x s)).trans (List.length_map _))

theorem openGateSelect_spindles (n : Nat) : (s.spindle n).sameButDispatch ((openGateSelect s).spindle n) :=
  (DispatchOnly.selectBoth (openGate s)).2.2 n

theorem openGateSelect_frame : openGateSelect s =
    { s with si := (openGateSelect s).si, pd := (openGateSelect s).pd, spindles := (openGateSelect s).spindles } := by
  rw [openGateSelect_si]
  exact (DispatchOnly.selectBoth (openGate s)).1.trans rfl

end

end Sys2Proof.Machine
end

section
/-! SETTLED. SETTLE_TIMER_EXPIRY (R29, R83). -/

namespace Sys2Proof.Machine

/-- The settle timer run out. -/
def settleOver (s : State) : State := { s with si.settle := Timer.expired }

/-- Settles O11: the expiry is `openGateSelect` on the state with the settle timer run out. -/
theorem settleTimerExpiryOpensTheGate : Obligations.SettleTimerExpiryOpensTheGate := by
  unfold Obligations.SettleTimerExpiryOpensTheGate
  intro s hp hgate
  have hexec : exec .settleTimerExpiry s = .next (openGateSelect (settleOver s)) :=
    (onSupply_powered _ _ hp).trans (congrArg Host.Outcome.next (if_pos hgate))
  have hsi := openGateSelect_si (settleOver s)
  exact ⟨_, hexec, congrArg Intake.gate hsi, congrArg (fun i : Intake => i.settle.running) hsi, (congrArg Intake.cells hsi).trans rfl,
    (congrArg Intake.segments hsi).trans rfl, openGateSelect_windows (settleOver s), openGateSelect_length (settleOver s),
    openGateSelect_spindles (settleOver s), openGateSelect_frame (settleOver s)⟩

end Sys2Proof.Machine
end

section
/-! SUPPORT. The pending notices queued at the pin reset (R203, R205). -/

namespace Sys2Proof.Machine

/-! ### Notices (R203) -/

/-- The NOTICE of a class as it stands, with a number of the own sequence (R203). -/
def noticeOf (s : State) (c seq : Nat) : OwnFrame :=
  { dest := 0, src := s.frameNumber, seq := seq
    body := .notice c (s.event c).flag (s.event c).count (s.event c).detail s.dc.runClock }

/-! ### Pending notices (R205) -/

/-- A class after its pending notice is sent. -/
def sent (e : EventClass) : EventClass := if e.pending = true then { e with pending := false, given := true } else e

theorem sent_sent (e : EventClass) : sent (sent e) = sent e := by
  by_cases h : e.pending = true
  · rw [show sent e = { e with pending := false, given := true } from if_pos h]
    rfl
  · rw [show sent e = e from if_neg h]
    exact if_neg h

theorem sent_marks (e : EventClass) : (sent e).flag = e.flag ∧ (sent e).mask = e.mask := by
  unfold sent
  split <;> exact ⟨rfl, rfl⟩

theorem raised_sent (d : Nat) (e : EventClass) : raised d (sent e) =
    { e with
      flag := true, count := min 255 (e.count + 1), detail := d, pending := false, given := e.given || e.pending } := by
  obtain ⟨_, _, _, _, pending, given⟩ := e
  cases pending
  · exact congrArg (EventClass.mk _ _ _ _ _) (Bool.or_false given).symm
  · exact congrArg (EventClass.mk _ _ _ _ _) (Bool.or_true given).symm

/-- The pending notice of a class queued. -/
def sendPending (t : State) (c : Nat) : State := if (t.event c).pending then queueNotice c t else t

theorem queuePending_eq (s : State) : queuePending s = (List.range 16).foldl sendPending s := rfl

theorem OnlyNotices.sendAll (l : List Nat) (s : State) : OnlyNotices s (l.foldl sendPending s) :=
  List.foldlRecOn (motive := OnlyNotices s) _ _ (.refl s) fun t ht c _ =>
    ht.trans (iteInduction (motive := OnlyNotices t) (fun _ => .queueNotice c t) fun _ => .refl t)

theorem length_sendPending (t : State) (c : Nat) : (sendPending t c).events.length = t.events.length := by
  unfold sendPending
  split
  · exact length_events_modEvent ..
  · rfl

theorem event_sendPending (t : State) (c d : Nat) :
    (sendPending t c).event d = if d = c ∧ c < t.events.length then sent (t.event d) else t.event d := by
  by_cases hd : d = c ∧ c < t.events.length
  · obtain ⟨rfl, hlt⟩ := hd
    unfold sendPending sent
    split
    · rw [event_queueNotice]
    · exact (ite_self _).symm
  · rw [if_neg hd]
    unfold sendPending
    split
    · exact (event_queueNotice ..).trans (if_neg hd)
    · rfl

/-- The classes after the pending notices of a list of them are sent. -/
theorem event_sendAll {l : List Nat} {s : State} (hl : ∀ c ∈ l, c < s.events.length) :
    (l.foldl sendPending s).events.length = s.events.length ∧
    ∀ d, (l.foldl sendPending s).event d = if d ∈ l then sent (s.event d) else s.event d := by
  induction l using List.reverseRecOn with
  | nil => exact ⟨rfl, fun d => (if_neg (List.not_mem_nil)).symm⟩
  | append_singleton l c ih =>
    obtain ⟨hlen, hevent⟩ := ih fun x hx => hl x (List.mem_append_left _ hx)
    have hc := hl c (List.mem_append_right l (List.mem_singleton_self c))
    rw [List.foldl_append]
    refine ⟨(length_sendPending _ c).trans hlen, fun d => (event_sendPending _ c d).trans ?_⟩
    rw [hlen, hevent]
    by_cases hd : d = c
    · subst hd
      rw [if_pos ⟨rfl, hc⟩, if_pos (List.mem_append_right l (List.mem_singleton_self d))]
      split
      · exact sent_sent _
      · rfl
    · rw [if_neg (fun h => hd h.1)]
      exact if_congr ⟨List.mem_append_left _, fun h => (List.mem_append.mp h).resolve_right fun h => hd (List.mem_singleton.mp h)⟩
        rfl rfl

/-- The classes of a list with notice pending. -/
def pendingIn (l : List Nat) (s : State) : List Nat := l.filter (fun c => (s.event c).pending)

/-- Their notices, in the order of the list. -/
def pendingNotices (l : List Nat) (s : State) : List OwnFrame :=
  (pendingIn l s).zipIdx.map (fun x => noticeOf s x.1 ((s.ml.ownSeq + x.2) % 65536))

theorem pendingIn_concat (l : List Nat) (c : Nat) (s : State) :
    pendingIn (l ++ [c]) s = pendingIn l s ++ if (s.event c).pending then [c] else [] := by
  rw [pendingIn, List.filter_append, List.filter_cons, List.filter_nil]
  rfl

theorem pendingNotices_concat_of_pending {c : Nat} {s : State} (h : (s.event c).pending = true) (l : List Nat) :
    pendingNotices (l ++ [c]) s =
      pendingNotices l s ++ [noticeOf s c ((s.ml.ownSeq + (pendingIn l s).length) % 65536)] := by
  rw [pendingNotices, pendingIn_concat, if_pos h, List.zipIdx_append, List.map_append, ← pendingNotices]
  exact congrArg (fun n => pendingNotices l s ++ [noticeOf s c ((s.ml.ownSeq + n) % 65536)]) (Nat.zero_add _)

/-- The own queue and its sequence after the pending notices of a list of classes are sent. -/
theorem own_sendAll {l : List Nat} {s : State} (hnodup : l.Nodup) (hl : ∀ c ∈ l, c < s.events.length)
    (hseq : s.ml.ownSeq < 65536) :
    (l.foldl sendPending s).ml.own = s.ml.own ++ pendingNotices l s ∧
    (l.foldl sendPending s).ml.ownSeq = (s.ml.ownSeq + (pendingIn l s).length) % 65536 := by
  induction l using List.reverseRecOn with
  | nil => exact ⟨(List.append_nil _).symm, (Nat.mod_eq_of_lt hseq).symm⟩
  | append_singleton l c ih =>
    have hsplit := List.nodup_append'.mp hnodup
    have hl' : ∀ x ∈ l, x < s.events.length := fun x hx => hl x (List.mem_append_left _ hx)
    have hi := ih hsplit.1 hl'
    have hclock := (OnlyNotices.sendAll l s).clock
    have hevent : (l.foldl sendPending s).event c = s.event c :=
      ((event_sendAll hl').2 c).trans (if_neg fun h => hsplit.2.2 h (List.mem_singleton_self c))
    rw [List.foldl_append]
    by_cases hp : (s.event c).pending = true
    · have hstep : [c].foldl sendPending (l.foldl sendPending s) = queueNotice c (l.foldl sendPending s) :=
        if_pos ((congrArg EventClass.pending hevent).trans hp)
      have hnotice : noticeOf (l.foldl sendPending s) c (l.foldl sendPending s).ml.ownSeq =
          noticeOf s c ((s.ml.ownSeq + (pendingIn l s).length) % 65536) := by
        rw [noticeOf, hevent, hclock.1, hclock.2, hi.2]
        rfl
      rw [hstep, pendingNotices_concat_of_pending hp, pendingIn_concat, if_pos hp, List.length_append, ← hnotice,
        ← List.append_assoc, ← hi.1]
      exact ⟨rfl, (congrArg (fun n => (n + 1) % 65536) hi.2).trans (Nat.mod_add_mod ..)⟩
    · have hstep : [c].foldl sendPending (l.foldl sendPending s) = l.foldl sendPending s :=
        if_neg ((congrArg EventClass.pending hevent).trans_ne hp)
      have hsame : pendingIn (l ++ [c]) s = pendingIn l s := by rw [pendingIn_concat, if_neg hp, List.append_nil]
      rw [hstep, pendingNotices, hsame]
      exact hi

/-- With no class pending nothing is sent. -/
theorem queuePending_of_none {s : State} (h : ∀ c < 16, (s.event c).pending = false) : queuePending s = s := by
  rw [queuePending_eq]
  refine List.foldlRecOn (motive := fun t => t = s) _ _ rfl (fun t ht c hc => ?_)
  subst ht
  exact if_neg (by rw [h c (List.mem_range.mp hc)]; decide)

end Sys2Proof.Machine
end

section
/-! SETTLED. PIN_RESET (R44, R46, R65, R89, R110, R134, R156, R170, R177, R191, R205, R209, R210). -/

namespace Sys2Proof.Machine

/-- The profile that a reset takes over, its condition a proposition. -/
def profileTaken (s : State) : Profile := if s.ps.source = .stored then s.ps.stored else Profile.default

theorem profileAtWarm_eq (s : State) : s.profileAtWarm = profileTaken s := by
  unfold State.profileAtWarm profileTaken
  cases s.ps.source <;> rfl

/-- The part as a pin reset leaves it before its notices: every block warm, the mill link emptied (R209). -/
def emptied (s : State) : State :=
  { s with
    ps.inForce := profileTaken s
    dc := { s.dc with baseline := none, drive := none, firstTaken := false, refound := false }
    spindles := warmSpindles (profileTaken s) s
    si := Intake.initial
    pd := { s.pd with
      lists := { a := [], b := [] }
      carriages := { a := warmCarriage s.pd.carriages.a, b := warmCarriage s.pd.carriages.b } }
    df := { s.df with
      state := .looking, driveSlot := none, driveNext := 0, dofferSlot := none, dofferNext := 0
      doffTimer := { left := 0, mode := .stopped }, parkTimer := { left := 0, running := false }, stopTime := none }
    rm := { s.rm with
      forecasts := List.replicate 80 none, queue := [], period := 0, periodRunning := false, lastFullPass := none
      due := [], asked := 0 }
    sa := (chargeStopTime s).sa
    lc := LineControl.initial
      (if (profileTaken s).segmentsA == s.ps.inForce.segmentsA && (profileTaken s).segmentsB == s.ps.inForce.segmentsB
        then s.lc.schedule else defaultSchedule (profileTaken s).segmentsA (profileTaken s).segmentsB)
    ml := { s.ml with
      throughDown := [], throughUp := [], own := [], upTx := none, downTx := none, lastServed := .own
      resetArm := false, lastReset := .pin }
    overtaken := Overtaken.none }

/-- The doff stop seconds charged where the stop-time timer runs (R134). -/
theorem chargeStopTime_eq (s : State) : chargeStopTime s = { s with sa := (chargeStopTime s).sa } := by
  unfold chargeStopTime
  cases s.df.stopTime <;> rfl

/-- The part as the raise of RESET finds it: emptied, its pending notices sent. -/
def allSent (s : State) : State := queuePending (emptied s)

theorem pinReset_eq (s : State) : pinReset s = raiseEvent .reset 1 (allSent s) := by
  have hwarm : { warmReset .pin s with
      ml := { (warmReset .pin s).ml with
        throughDown := [], throughUp := [], own := [], upTx := none, downTx := none, lastServed := .own } } = emptied s := by
    unfold warmReset emptied
    rw [chargeStopTime_eq, profileAtWarm_eq]
  unfold pinReset
  exact congrArg (fun t => raiseEvent .reset 1 (queuePending t)) hwarm

theorem exec_pinReset {s : State} (hp : s.powered = true) :
    exec .pinReset s = .next (raiseEvent .reset 1 (allSent s)) :=
  (onSupply_powered _ _ hp).trans (congrArg Host.Outcome.next (pinReset_eq s))

theorem length_own_raiseReset (s : State) :
    (raiseEvent .reset 1 (emptied s)).ml.own.length = if (s.event 0).flag = false ∧ (s.event 0).mask = true then 1 else 0 := by
  by_cases h : (s.event 0).flag = false ∧ (s.event 0).mask = true
  · rw [if_pos h, raiseEvent_admitted (id := .reset) (s := emptied s) 1 h]
    rfl
  · rw [if_neg h, raiseEvent_unnoticed (id := .reset) (s := emptied s) 1 h]
    rfl

/-- The NOTICE of a class that has just changed. -/
theorem own_queueNotice_modEvent (c : Nat) (f : EventClass → EventClass) (u : State) :
    (queueNotice c (modEvent c f u)).ml.own = u.ml.own ++
      [{ dest := 0, src := u.frameNumber, seq := u.ml.ownSeq
         body := .notice c ((modEvent c f u).event c).flag ((modEvent c f u).event c).count ((modEvent c f u).event c).detail
           u.dc.runClock }] := rfl

theorem admitNotice_modEvent_of_room (c : Nat) (f : EventClass → EventClass) {u : State} (h : u.ml.own.length < 16) :
    admitNotice c (modEvent c f u) = queueNotice c (modEvent c f u) := if_pos (decide_eq_true h)

theorem event_queueNotice_modEvent (c : Nat) (f : EventClass → EventClass) {u : State} (h : c < u.events.length) :
    (queueNotice c (modEvent c f u)).event c = { f (u.event c) with pending := false, given := true } :=
  (event_queueNotice ..).trans ((if_pos ⟨rfl, (length_events_modEvent ..).symm ▸ h⟩).trans
    (congrArg (fun e : EventClass => { e with pending := false, given := true }) ((event_modEvent ..).trans (if_pos ⟨rfl, h⟩))))

section
variable {s : State} (hlen : s.events.length = 16)
include hlen

theorem classes_in_range : ∀ c ∈ List.range 16, c < (emptied s).events.length := fun _ hc => hlen ▸ List.mem_range.mp hc

theorem event_allSent (c : Nat) : (allSent s).event c = sent (s.event c) := by
  refine ((event_sendAll (classes_in_range hlen)).2 c).trans (ite_eq_left_iff.mpr fun hc => ?_)
  have hclear : s.event c = EventClass.clear :=
    List.getD_eq_default _ _ (hlen ▸ Nat.le_of_not_lt fun h => hc (List.mem_range.mpr h))
  show s.event c = sent (s.event c)
  rw [hclear]
  rfl

theorem own_allSent (hseq : s.ml.ownSeq < 65536) :
    (allSent s).ml.own = pendingNotices (List.range 16) (emptied s) ∧
    (allSent s).ml.ownSeq = ((emptied s).ml.ownSeq + (pendingIn (List.range 16) (emptied s)).length) % 65536 := by
  obtain ⟨hown, hownSeq⟩ := own_sendAll (s := emptied s) List.nodup_range (classes_in_range hlen) hseq
  unfold allSent
  rw [queuePending_eq]
  exact ⟨hown.trans (List.nil_append _), hownSeq⟩

theorem zero_lt_events_allSent : 0 < (allSent s).events.length :=
  (Nat.succ_pos 15).trans_eq (((event_sendAll (classes_in_range hlen)).1).trans hlen).symm

/-- RESET's class as its raise leaves it (R203, R205). -/
theorem event_raised_allSent : (modEvent 0 (raised 1) (allSent s)).event 0 = raised 1 (sent (s.event 0)) :=
  (event_modEvent ..).trans
    ((if_pos ⟨rfl, zero_lt_events_allSent hlen⟩).trans (congrArg (raised 1) (event_allSent hlen 0)))

/-- RESET already raised, or masked: no NOTICE of its own. -/
theorem reset_unnoticed (h : (s.event 0).flag = true ∨ (s.event 0).mask = false) :
    raiseEvent .reset 1 (allSent s) = modEvent 0 (raised 1) (allSent s) := by
  refine raiseEvent_unnoticed (id := .reset) 1 fun hc => ?_
  rw [show (allSent s).event EventId.reset.num = _ from event_allSent hlen 0, (sent_marks _).1, (sent_marks _).2] at hc
  obtain h | h := h
  · exact absurd (h.symm.trans hc.1) (by decide)
  · exact absurd (h.symm.trans hc.2) (by decide)

/-- RESET clear, unmasked and without a pending notice: its NOTICE behind the others, for which the own queue has room. -/
theorem reset_noticed (hown : (allSent s).ml.own.length < 16) (hf : (s.event 0).flag = false) (hm : (s.event 0).mask = true) :
    raiseEvent .reset 1 (allSent s) = queueNotice 0 (modEvent 0 (raised 1) (allSent s)) := by
  refine (raiseEvent_admitted (id := .reset) 1 ?_).trans (admitNotice_modEvent_of_room 0 _ hown)
  rw [show (allSent s).event EventId.reset.num = _ from event_allSent hlen 0, (sent_marks _).1, (sent_marks _).2]
  exact ⟨hf, hm⟩

theorem event_reset_noticed : (queueNotice 0 (modEvent 0 (raised 1) (allSent s))).event 0 =
    { raised 1 (sent (s.event 0)) with pending := false, given := true } :=
  (event_queueNotice_modEvent 0 _ (zero_lt_events_allSent hlen)).trans
    (congrArg (fun e : EventClass => { raised 1 e with pending := false, given := true }) (event_allSent hlen 0))

end

theorem same_segments {a b c d : Nat} : (a == c && b == d) = true ↔ a = c ∧ b = d :=
  (Bool.and_eq_true_iff ..).trans (and_congr beq_iff_eq beq_iff_eq)

theorem frameNumber_emptied (s : State) :
    (emptied s).frameNumber = if s.ps.source = .stored then s.ps.stored.frameNumber else Profile.default.frameNumber :=
  apply_ite Profile.frameNumber ..

/-- RESET's NOTICE. -/
theorem own_reset_noticed {s : State} (hlen : s.events.length = 16) (h : sent (s.event 0) = s.event 0) :
    (queueNotice 0 (modEvent 0 (raised 1) (allSent s))).ml.own = (allSent s).ml.own ++
      [{ dest := 0, src := (emptied s).frameNumber, seq := (allSent s).ml.ownSeq
         body := .notice 0 true (min 255 ((s.event 0).count + 1)) 1 s.dc.runClock }] := by
  obtain ⟨hnumber, hdc⟩ := (OnlyNotices.sendAll (List.range 16) (emptied s)).clock
  rw [own_queueNotice_modEvent, event_raised_allSent hlen, h, show (allSent s).frameNumber = _ from hnumber,
    show (allSent s).dc = _ from hdc]
  rfl

/-- With RESET's own class not pending the own queue has room for its NOTICE. -/
theorem length_pendingNotices {s : State} (h : (s.event 0).pending = false) : (pendingNotices (List.range 16) s).length < 16 := by
  have hlt := List.length_filter_lt_length_iff_exists (l := List.range 16) (p := fun c => (s.event c).pending)
  exact (List.length_map _).trans_lt ((List.length_zipIdx).trans_lt (hlt.mpr ⟨0, by decide, by rw [h]; decide⟩))

theorem pendingNotices_emptied (s : State) : pendingNotices (List.range 16) (emptied s) =
    ((List.range 16).filter (fun c => (s.event c).pending)).zipIdx.map (fun x =>
      { dest := 0
        src := if s.ps.source = .stored then s.ps.stored.frameNumber else Profile.default.frameNumber
        seq := (s.ml.ownSeq + x.2) % 65536
        body := .notice x.1 (s.event x.1).flag (s.event x.1).count (s.event x.1).detail s.dc.runClock }) := by
  unfold pendingNotices noticeOf
  rw [frameNumber_emptied]
  rfl

/-- Settles O7: a pin reset's part is `pinned`, `own_sendAll` and `event_sendAll` give the notices, and the raise of RESET its own. -/
theorem pinResetIsWarmAndEmptiesTheMillLink : Obligations.PinResetIsWarmAndEmptiesTheMillLink := by
  unfold Obligations.PinResetIsWarmAndEmptiesTheMillLink
  refine ⟨fun s hp hlen hnone => ?_, fun s hp hlen hseq => ?_⟩
  · intro q
    have hexec := (exec_pinReset hp).trans
      (congrArg (fun u => Host.Outcome.next (raiseEvent .reset 1 u)) (queuePending_of_none (s := emptied s) hnone))
    have ht : OnlyNotices (emptied s) (raiseEvent .reset 1 (emptied s)) := OnlyNotices.raiseEvent .reset 1 _
    have hself := event_raiseEvent_self .reset 1 (s := emptied s) (hlen ▸ (by decide : 0 < 16))
    have hf {α : Type} (f : State → α) := congrArg f ht
    refine ⟨_, hexec, hf (·.dc), (hf (·.si.gate)).trans initial_intake.1, (hf (·.si.settle.running)).trans initial_intake.2.1,
      (hf (·.si.cells)).trans initial_intake.2.2.1, (hf (·.si.segments)).trans initial_intake.2.2.2, hf (·.pd.lists),
      hf (·.pd.globalHold), fun side => ?_, hf (·.df.state), hf (·.df.mark), hf (·.df.inhibit), hf (·.df.inProgress),
      hf (·.df.lastSegment), hf (·.df.driveSlot), hf (·.df.driveNext), hf (·.df.dofferSlot), hf (·.df.dofferNext),
      hf (·.df.doffTimer.mode), hf (·.df.parkTimer.running), hf (·.df.stopTime), hf (·.df.ignored), hf (·.rm.lots),
      hf (·.rm.forecasts), hf (·.rm.queue), hf (·.rm.period), hf (·.rm.periodRunning), hf (·.rm.lastFullPass), hf (·.rm.due),
      hf (·.rm.asked), (hf (·.sa)).trans ?_, hf (·.lc.cursor), hf (·.lc.haltWaiting), hf (·.lc.messageFirst), hf (·.lc.visit),
      fun h => (hf (·.lc.schedule)).trans (if_pos (same_segments.mpr h)), fun h => ?_,
      (hf (fun u => u.lc.stations.map (fun e => e.address))).trans initial_stations.2, ?_, hf (·.ps),
      hf (·.ml.throughDown), hf (·.ml.throughUp), hf (·.ml.upTx), hf (·.ml.downTx), hf (·.ml.lastServed), hf (·.ml.resetArm),
      hf (·.ml.counts), hf (·.ml.passTable), hf (·.ml.recipe), hf (·.ml.lastReset), hf (·.overtaken), hself.1, hself.2.2, hself.2.1,
      fun c hc => event_raiseEvent_other (Nat.ne_of_gt hc) 1 (emptied s), length_own_raiseReset s⟩
    · rw [carriage_raiseEvent]
      cases side <;> rfl
    · show (chargeStopTime s).sa = _
      unfold chargeStopTime
      cases s.df.stopTime <;> rfl
    · refine ((hf (·.lc.schedule)).trans (if_neg fun hc => h (same_segments.mp hc))) ▸ defaultSchedule_spec _ _
    · rw [hf (·.lc.stations)]
      exact initial_stations.1
  · intro frame waiting notices reset
    have hown : (allSent s).ml.own = notices :=
      (own_allSent hlen hseq).1.trans (pendingNotices_emptied s)
    refine ⟨_, exec_pinReset hp, fun c hc => (event_raiseEvent_other (Nat.ne_of_gt hc) 1 _).trans (event_allSent hlen c),
      fun hc => ?_, fun hf hm hnp => ?_⟩
    · rw [reset_unnoticed hlen hc]
      exact ⟨(congrArg MillLink.own (modEvent_ml 0 _ (allSent s))).trans hown, (event_raised_allSent hlen).trans (raised_sent 1 reset)⟩
    · have h0 : sent reset = reset := if_neg (by rw [hnp]; decide)
      have hshort : (allSent s).ml.own.length < 16 := (congrArg List.length hown).trans_lt
        ((congrArg List.length (pendingNotices_emptied s)).symm.trans_lt (length_pendingNotices (s := emptied s) hnp))
      rw [reset_noticed hlen hshort hf hm]
      refine ⟨(own_reset_noticed hlen h0).trans ?_, (event_reset_noticed hlen).trans ?_⟩
      · rw [hown, (own_allSent hlen hseq).2, frameNumber_emptied]
        rfl
      · rw [h0]
        rfl

end Sys2Proof.Machine
end

section
/-! SUPPORT. What the entry into DUE touches, and what it leaves of the carriages (R92, R102, R118, R119, R121). -/

namespace Sys2Proof.Machine

/-! ### What is touched -/

/-- Every spindle's record is as it was, but for dispatch. -/
def SpindlesKept (s t : State) : Prop := ∀ n, (s.spindle n).sameButDispatch (t.spindle n)

theorem SpindlesKept.trans {s t u : State} (h₁ : SpindlesKept s t) (h₂ : SpindlesKept t u) : SpindlesKept s u :=
  fun n => Spindle.sameButDispatch_trans (h₁ n) (h₂ n)

theorem SpindlesKept.of_eq {s t : State} (h : t.spindles = s.spindles) : SpindlesKept s t := fun n => by
  rw [spindle_congr h]; rfl

/-- The step from one state to another touches dispatch and the Doff Controller only. -/
def ParkFrame (s t : State) : Prop := t = { s with pd := t.pd, df := t.df, spindles := t.spindles }

namespace ParkFrame

theorem refl (s : State) : ParkFrame s s := rfl

theorem trans {s t u : State} (h₁ : ParkFrame s t) (h₂ : ParkFrame t u) : ParkFrame s u := by
  unfold ParkFrame at *
  rw [h₂, h₁]

theorem of_dispatchOnly {s t : State} (h : DispatchOnly s t) : ParkFrame s t := by
  unfold ParkFrame
  rw [h.1]

theorem enterStopping (s : State) : ParkFrame s (enterStopping s) := by
  unfold Machine.enterStopping
  dsimp only
  split <;> rfl

theorem parkWait (s : State) : ParkFrame s (parkWait s) :=
  iteInduction (motive := ParkFrame s) (fun _ => trans (t := stopParkTimer s) rfl (enterStopping _)) fun _ => refl s

end ParkFrame

/-! ### STOPPING -/

theorem enterStopping_keeps (s : State) :
    (enterStopping s).df.state = .stopping ∧ (enterStopping s).pd = s.pd ∧ (enterStopping s).spindles = s.spindles := by
  unfold enterStopping
  dsimp only
  split <;> exact ⟨rfl, rfl, rfl⟩

/-- The test of DUE's wait (R119) touches no list and no spindle. -/
theorem parkWait_keeps (s : State) : (∀ x, (parkWait s).list x = s.list x) ∧ (parkWait s).spindles = s.spindles :=
  iteInduction (motive := fun t : State => (∀ x, t.list x = s.list x) ∧ t.spindles = s.spindles)
    (fun _ =>
      have ⟨_, hpd, hspindles⟩ := enterStopping_keeps (stopParkTimer s)
      ⟨fun x => (congrArg (fun d : Dispatcher => d.lists.get x) hpd).trans rfl, hspindles⟩)
    fun _ => ⟨fun _ => rfl, rfl⟩

/-- With both carriages out of the way DUE's wait is over at once. -/
theorem state_parkWait {s : State} (h : s.df.state = .due) : (parkWait s).df.state =
    if (s.carriage .A).away = true ∧ (s.carriage .B).away = true then .stopping else .due := by
  unfold parkWait
  by_cases ha : (s.carriage .A).away = true ∧ (s.carriage .B).away = true
  · rw [if_pos ha, if_pos ⟨h, ha⟩]
    exact (enterStopping_keeps _).1
  · rw [if_neg ha, if_neg fun hc => ha hc.2]
    exact h

/-! ### DUE -/

/-- Asked to park, a carriage that is out of the way stays so, and one that is not does not leave at once (R102). -/
theorem away_parkCarriage (side x : Side) (s : State) : ((parkCarriage side s).carriage x).away = (s.carriage x).away := by
  have hplaced {t : State} (ht : t.carriage x = s.carriage x) {c : CarriageState} (hc : (s.carriage side).state = c)
      (hs : (c == .parked || c == .out) = false) : ((placeOrder side .park t).carriage x).away = (s.carriage x).away := by
    by_cases hx : x = side
    · subst hx
      rw [placeOrder, carriage_modCarriage_self, Carriage.away, Carriage.away, hc, hs]
      rfl
    · rw [placeOrder, carriage_modCarriage, if_neg hx, ht]
  unfold parkCarriage
  split
  · next h => exact hplaced rfl h rfl
  · next h => exact hplaced (carriage_takeBackPiece side x s) h rfl
  · next h => exact hplaced (carriage_takeBackPiece side x s) h rfl
  all_goals rfl

/-- DOFF_DUE raised and both carriages asked to park. -/
def askedToPark (detail : Nat) (s : State) : State :=
  parkCarriage .B (parkCarriage .A (setDoff .due (raiseEvent .doffDue detail s)))

theorem enterDue_eq (detail : Nat) (s : State) : enterDue detail s =
    parkWait { askedToPark detail s with df.parkTimer := Timer.load (ms (askedToPark detail s).recipe.parkLimit) } := rfl

/-- Entry into DUE (R118, R119): DOFF_DUE is raised and nothing else in the Event Unit, both carriages are asked to park, and where
both are out of the way already the stop begins. -/
structure Due (detail : Nat) (s t : State) : Prop where
  frame : ParkFrame (raiseEvent .doffDue detail s) t
  state : t.df.state = if (s.carriage .A).away = true ∧ (s.carriage .B).away = true then .stopping else .due
  spindles : SpindlesKept s t
  entries : EntriesKept s t

theorem due_enterDue (detail : Nat) (s : State) : Due detail s (enterDue detail s) := by
  have hparks : DispatchOnly (setDoff .due (raiseEvent .doffDue detail s)) (askedToPark detail s) :=
    (DispatchOnly.parkCarriage .A _).trans (.parkCarriage .B _)
  have haway (x : Side) : ((askedToPark detail s).carriage x).away = (s.carriage x).away :=
    (away_parkCarriage .B x _).trans ((away_parkCarriage .A x _).trans (congrArg Carriage.away (carriage_raiseEvent ..)))
  have hdue : (askedToPark detail s).df.state = .due := by rw [hparks.1]; rfl
  have hraise : EntriesKept s (setDoff .due (raiseEvent .doffDue detail s)) := .of_list fun x => list_raiseEvent ..
  have hentries : EntriesKept s (askedToPark detail s) := (hraise.trans (.parkCarriage .A _)).trans (.parkCarriage .B _)
  have hspindles : SpindlesKept s (askedToPark detail s) :=
    (SpindlesKept.of_eq (raiseEvent_spindles .doffDue detail s)).trans hparks.2.2
  have hframe : ParkFrame (raiseEvent .doffDue detail s) (askedToPark detail s) :=
    .trans (t := setDoff .due (raiseEvent .doffDue detail s)) rfl (.of_dispatchOnly hparks)
  rw [enterDue_eq]
  generalize askedToPark detail s = u at *
  obtain ⟨v, hv⟩ : ∃ v, v = { u with df.parkTimer := Timer.load (ms u.recipe.parkLimit) } := ⟨_, rfl⟩
  rw [← hv]
  obtain ⟨hlists, hsame⟩ := parkWait_keeps v
  have huv : ParkFrame u v := by rw [hv]; rfl
  refine ⟨(hframe.trans huv).trans (.parkWait v), (state_parkWait (by rw [hv]; exact hdue)).trans ?_,
    hspindles.trans (.of_eq (hsame.trans (by rw [hv]))), hentries.trans (.of_list fun x => (hlists x).trans (by rw [hv]; rfl))⟩
  rw [← haway .A, ← haway .B, hv]
  rfl

/-- The span at which the doff comes due (R118). -/
def dueLimit (s : State) : Nat := s.ml.recipe.doffTarget + (if s.df.inhibit then s.ml.recipe.doffOverrun else 0)

theorem dueTest_eq (s : State) :
    dueTest s = if dueLimit s ≤ s.dc.frameLength - s.df.mark then enterDue (if s.df.inhibit then 1 else 0) s else s := by
  unfold dueTest dueLimit
  cases s.df.inhibit <;> rfl

end Sys2Proof.Machine
end

section
/-! SUPPORT. Selection for both carriages (R77): what it leaves undone, and what it cannot leave undone. -/

namespace Sys2Proof.Machine

theorem dispatchable_iff (side : Side) (s : State) :
    dispatchable side s = true ↔
      s.df.state = .spinning ∧ s.si.gate = .opened ∧ s.pd.globalHold = false ∧ (s.carriage side).state = .idle ∧
      ∃ e ∈ s.list side, e.status = .waiting := by
  simp [dispatchable, and_assoc]

/-- Selection touches no block but dispatch, and there no global hold. -/
theorem globalHold_selectFor (side : Side) (s : State) : (selectFor side s).pd.globalHold = s.pd.globalHold :=
  selectFor_keeps (P := fun t => t.pd.globalHold = s.pd.globalHold) (fun _ ht => ht)
    (fun _ _ _ ht _ _ => (congrArg Dispatcher.globalHold (modSpindle_pd ..)).trans ht) s rfl

section
variable {s t : State} (h : DispatchOnly s t)
include h

theorem dispatchOnly_df : t.df = s.df := (congrArg State.df h.1).trans rfl
theorem dispatchOnly_si : t.si = s.si := (congrArg State.si h.1).trans rfl
theorem dispatchOnly_dc : t.dc = s.dc := (congrArg State.dc h.1).trans rfl
theorem dispatchOnly_ml : t.ml = s.ml := (congrArg State.ml h.1).trans rfl
theorem dispatchOnly_rm : t.rm = s.rm := (congrArg State.rm h.1).trans rfl
theorem dispatchOnly_events : t.events = s.events := (congrArg State.events h.1).trans rfl

end

theorem aged_dispatchOnly {s t : State} (h : DispatchOnly s t) : t.aged = s.aged := (congrArg State.aged h.1).trans rfl

theorem aged_waiting {s : State} {e : Entry} (hw : e.status = .waiting) :
    s.aged e = decide (s.ml.recipe.ageLimit ≤ s.dc.runClock - e.admittedAt) := by
  unfold State.aged
  rw [hw]
  rfl

theorem NoneOpen.congr {side : Side} {s t : State} (h : NoneOpen side s) (hl : t.list side = s.list side) (ha : t.aged = s.aged) :
    NoneOpen side t := by
  unfold NoneOpen
  rwa [hl, ha]

theorem GivenPiece.congr {side : Side} {s s' t t' : State} (h : GivenPiece side s t) (hl : s'.list side = s.list side)
    (hc : s'.carriage side = s.carriage side) (ht : t'.carriage side = t.carriage side) : GivenPiece side s' t' := by
  unfold GivenPiece
  rwa [hl, hc, ht]

/-- A side has a WAITING entry that is not passed over, or has waited its age. -/
def OpenEntry (side : Side) (s : State) : Prop :=
  ∃ e ∈ s.list side, e.status = .waiting ∧ (e.passedOver = false ∨ s.aged e = true)

theorem OpenEntry.congr {side : Side} {s t : State} (h : OpenEntry side s) (hl : t.list side = s.list side)
    (ha : t.aged = s.aged) : OpenEntry side t := by
  unfold OpenEntry
  rwa [hl, ha]

section
variable {side : Side} {s : State}

/-- A carriage left IDLE by its selection, every other condition met: no entry that takes a PIECE stands beside it. -/
theorem noneOpen_selectFor (hdf : s.df.state = .spinning) (hgate : s.si.gate = .opened) (hhold : s.pd.globalHold = false)
    (hidle : ((selectFor side s).carriage side).state = .idle) : NoneOpen side (selectFor side s) := by
  by_cases hd : dispatchable side s = true
  · obtain hgiven | hnone := selectFor_outcome hd
    · exact absurd (hidle.symm.trans hgiven.1) (by decide)
    · rw [hnone.1]
      exact hnone.2
  · rw [selectFor_not_dispatchable side s (Bool.eq_false_of_not_eq_true hd)] at hidle ⊢
    exact fun e he hw => absurd ((dispatchable_iff side s).mpr ⟨hdf, hgate, hhold, hidle, e, he, hw⟩) hd

/-- A carriage that may be given a PIECE, beside an entry that takes one, is given one (R77). -/
theorem givenPiece_selectFor (hd : dispatchable side s = true) (ho : OpenEntry side s) : GivenPiece side s (selectFor side s) := by
  refine (selectFor_outcome hd).resolve_right fun h => ?_
  obtain ⟨e, he, hw, hopen⟩ := ho
  have hnone := h.2 e he hw
  rw [hnone.1, hnone.2] at hopen
  exact absurd hopen (by decide)

theorem dispatchable_of_open (hdf : s.df.state = .spinning) (hgate : s.si.gate = .opened) (hhold : s.pd.globalHold = false)
    (hidle : (s.carriage side).state = .idle) (ho : OpenEntry side s) : dispatchable side s = true :=
  (dispatchable_iff side s).mpr ⟨hdf, hgate, hhold, hidle, ho.imp fun _ h => ⟨h.1, h.2.1⟩⟩

end

/-- The state on which selection for both carriages selects for a side. -/
def selectsOn (s : State) : Side → State
  | .A => s
  | .B => selectFor .A s

theorem dispatchOnly_selectsOn (s : State) (side : Side) : DispatchOnly s (selectsOn s side) := by
  cases side with
  | A => exact .refl s
  | B => exact .selectFor .A s

theorem globalHold_selectsOn (s : State) (side : Side) : (selectsOn s side).pd.globalHold = s.pd.globalHold := by
  cases side with
  | A => rfl
  | B => exact globalHold_selectFor .A s

theorem carriage_selectsOn (s : State) (side : Side) : (selectsOn s side).carriage side = s.carriage side := by
  cases side with
  | A => rfl
  | B => exact carriage_selectFor_other (by decide) s

theorem carriage_selectBoth (s : State) (side : Side) :
    (selectBoth s).carriage side = (selectFor side (selectsOn s side)).carriage side := by
  cases side with
  | A => exact carriage_selectFor_other (by decide) _
  | B => rfl

section
variable {s : State} (hsides : ∀ x, ∀ e ∈ s.list x, sideOf e.spindle = x)
include hsides

theorem list_selectsOn (side : Side) : (selectsOn s side).list side = s.list side := by
  cases side with
  | A => rfl
  | B => exact list_selectFor_other (by decide) (hsides .A)

theorem list_selectBoth (side : Side) : (selectBoth s).list side = (selectFor side (selectsOn s side)).list side := by
  cases side with
  | A => exact list_selectFor_other (by decide) ((EntriesKept.selectFor .A s).sides (hsides .B))
  | B => rfl

theorem noneOpen_selectBoth {side : Side} (hdf : s.df.state = .spinning) (hgate : s.si.gate = .opened)
    (hhold : s.pd.globalHold = false) (hidle : ((selectBoth s).carriage side).state = .idle) : NoneOpen side (selectBoth s) := by
  have hu := dispatchOnly_selectsOn s side
  rw [← dispatchOnly_df hu] at hdf
  rw [← dispatchOnly_si hu] at hgate
  rw [carriage_selectBoth] at hidle
  exact (noneOpen_selectFor hdf hgate ((globalHold_selectsOn s side).trans hhold) hidle).congr (list_selectBoth hsides side)
    ((aged_dispatchOnly (.selectBoth s)).trans (aged_dispatchOnly (hu.trans (.selectFor side _))).symm)

theorem givenPiece_selectBoth {side : Side} (hdf : s.df.state = .spinning) (hgate : s.si.gate = .opened)
    (hhold : s.pd.globalHold = false) (hidle : (s.carriage side).state = .idle) (ho : OpenEntry side s) :
    GivenPiece side s (selectBoth s) := by
  have hu := dispatchOnly_selectsOn s side
  have hlist := list_selectsOn hsides side
  have hcarriage := carriage_selectsOn s side
  have hou := ho.congr hlist (aged_dispatchOnly hu)
  rw [← dispatchOnly_df hu] at hdf
  rw [← dispatchOnly_si hu] at hgate
  rw [← hcarriage] at hidle
  exact (givenPiece_selectFor (dispatchable_of_open hdf hgate ((globalHold_selectsOn s side).trans hhold) hidle hou) hou).congr
    hlist.symm hcarriage.symm (carriage_selectBoth s side)

end

end Sys2Proof.Machine
end

section
/-! SUPPORT. The recipe's fields as a LOAD_RECIPE writes them (R201). -/

namespace Sys2Proof.Machine

/-- The lowest values of the 15 fields (R201). -/
def recipeLows : List Nat := [40, 0, 5000, 500000, 0, 10, 1, 1, 30, 2, 30, 30, 0, 60, 100]

/-- The highest values of the 15 fields (R201). -/
def recipeHighs : List Nat := [1000, 200, 40000, 12000000, 300000, 600, 60, 7, 3600, 60, 600, 600, 60, 1800, 16000]

theorem recipeRange_of_field {f : Nat} (h₁ : 1 ≤ f) (h₂ : f ≤ 15) :
    recipeRange f = some (recipeLows.getD (f - 1) 0, recipeHighs.getD (f - 1) 0) := by
  interval_cases f <;> rfl

theorem recipeRange_isSome_iff (f : Nat) : (recipeRange f).isSome = true ↔ 1 ≤ f ∧ f ≤ 15 := by
  refine ⟨fun h => ⟨Nat.pos_of_ne_zero ?_, Nat.le_of_not_lt fun hf => ?_⟩, fun h => by rw [recipeRange_of_field h.1 h.2]; rfl⟩
  · rintro rfl
    exact absurd h (by decide)
  · obtain ⟨n, rfl⟩ := Nat.exists_eq_add_of_le' hf
    exact absurd h (show ¬ (none : Option (Nat × Nat)).isSome = true by decide)

theorem fields_setField {f : Nat} (h₁ : 1 ≤ f) (h₂ : f ≤ 15) (r : Recipe) (v : Nat) :
    (r.setField f v).fields = r.fields.set (f - 1) v := by
  interval_cases f <;> rfl

/-- A field after an item is written (R201). -/
theorem fields_write {i : RecipeItem} (hi : 1 ≤ i.field ∧ i.field ≤ 15) {f : Nat} (h₁ : 1 ≤ f) (r : Recipe) :
    (r.write i).fields[f - 1]? =
      if i.field = f then some (max (recipeLows.getD (f - 1) 0) (min (recipeHighs.getD (f - 1) 0) i.value))
      else r.fields[f - 1]? := by
  have hwrite : (r.write i).fields = r.fields.set (i.field - 1)
      (max (recipeLows.getD (i.field - 1) 0) (min (recipeHighs.getD (i.field - 1) 0) i.value)) := by
    unfold Recipe.write
    rw [recipeRange_of_field hi.1 hi.2]
    exact fields_setField hi.1 hi.2 r _
  rw [hwrite]
  by_cases hf : i.field = f
  · subst hf
    have hlt : i.field - 1 < r.fields.length := Nat.lt_of_lt_of_le (Nat.sub_one_lt_of_lt h₁) hi.2
    exact (List.getElem?_set_self hlt).trans (if_pos rfl).symm
  · exact (List.getElem?_set_ne fun he => hf (Nat.sub_one_cancel hi.1 h₁ he)).trans (if_neg hf).symm

/-- The last item of a field is what it holds after the load (R201). -/
theorem fields_writes {items : List RecipeItem} (hitems : ∀ i ∈ items, 1 ≤ i.field ∧ i.field ≤ 15) {f : Nat} (h₁ : 1 ≤ f)
    (r : Recipe) :
    (items.foldl Recipe.write r).fields[f - 1]? =
      ((items.filter (fun i => decide (i.field = f))).getLast?).elim (r.fields[f - 1]?)
        (fun i => some (max (recipeLows.getD (f - 1) 0) (min (recipeHighs.getD (f - 1) 0) i.value))) := by
  induction items using List.reverseRecOn with
  | nil => rfl
  | append_singleton items i ih =>
    have hi := hitems i (List.mem_append_right items (List.mem_singleton_self i))
    rw [List.foldl_append, List.filter_append]
    refine (fields_write hi h₁ _).trans ?_
    by_cases hf : i.field = f
    · have hlast : [i].filter (fun i => decide (i.field = f)) = [i] := List.filter_cons_of_pos (decide_eq_true hf)
      rw [if_pos hf, hlast, List.getLast?_concat]
      rfl
    · have hlast : [i].filter (fun i => decide (i.field = f)) = [] :=
        List.filter_cons_of_neg fun h => hf (of_decide_eq_true h)
      rw [if_neg hf, hlast, List.append_nil]
      exact ih fun j hj => hitems j (List.mem_append_left _ hj)

/-- A LOAD_RECIPE's answer counts the items outside their range (R201). -/
theorem clampAnswer_items {items : List RecipeItem} (hitems : ∀ i ∈ items, 1 ≤ i.field ∧ i.field ≤ 15) :
    clampAnswer (items.filter recipeItemClamped).length =
      let n := items.countP (fun i =>
        decide (i.value < recipeLows.getD (i.field - 1) 0 ∨ recipeHighs.getD (i.field - 1) 0 < i.value))
      if n = 0 then .done else .clamped n := by
  have hcount : (items.filter recipeItemClamped).length = items.countP (fun i =>
      decide (i.value < recipeLows.getD (i.field - 1) 0 ∨ recipeHighs.getD (i.field - 1) 0 < i.value)) := by
    rw [← List.countP_eq_length_filter]
    refine List.countP_congr (fun i hi => ?_)
    obtain ⟨h₁, h₂⟩ := hitems i hi
    simp [recipeItemClamped, recipeRange_of_field h₁ h₂, outside]
  rw [hcount]
  rfl

theorem judgeLoadRecipe_refused {items : List RecipeItem} {s : State}
    (h : ¬ (1 ≤ items.length ∧ items.length ≤ 15 ∧ ∀ i ∈ items, 1 ≤ i.field ∧ i.field ≤ 15)) :
    judgeLoadRecipe items s = refuse .argument :=
  if_neg fun hc => h ⟨hc.1, hc.2.1, fun i hi => (recipeRange_isSome_iff _).mp (List.all_eq_true.mp hc.2.2 i hi)⟩

theorem judgeLoadRecipe_taken {items : List RecipeItem} (h₁ : 1 ≤ items.length) (h₂ : items.length ≤ 15)
    (hitems : ∀ i ∈ items, 1 ≤ i.field ∧ i.field ≤ 15) (s : State) :
    judgeLoadRecipe items s =
      { answer := clampAnswer (items.filter recipeItemClamped).length, data := .empty, effect := loadRecipe items } :=
  if_pos ⟨h₁, h₂, List.all_eq_true.mpr fun i hi => (recipeRange_isSome_iff _).mpr (hitems i hi)⟩

end Sys2Proof.Machine
end

section
/-! SUPPORT. A recipe load's effect on the blocks, part by part (R31, R118, R201; log 16). -/

namespace Sys2Proof.Machine

/-! ### The settle interval (R31) -/

theorem resettle_of_not {old new : Nat} {s : State} (h : ¬ s.si.gate = .settling ∨ old = new) : resettle old new s = s :=
  if_neg fun hc => h.elim (fun h => h hc.1) hc.2

theorem resettle_opens {old new : Nat} {s : State} (h : s.si.gate = .settling ∧ ¬ old = new)
    (hrun : ms new ≤ ms old - s.si.settle.left) : resettle old new s = openGate { s with si.settle := Timer.expired } :=
  (if_pos h).trans (if_pos hrun)

theorem resettle_runs {old new : Nat} {s : State} (h : s.si.gate = .settling ∧ ¬ old = new)
    (hrun : ¬ ms new ≤ ms old - s.si.settle.left) :
    resettle old new s = { s with si.settle := Timer.load (ms new - (ms old - s.si.settle.left)) } :=
  (if_pos h).trans (if_neg hrun)

/-- Nothing of dispatch but the windows has changed. -/
structure WindowsOnly (s t : State) : Prop where
  frame : t = { s with si := t.si, pd := t.pd }
  carriage : ∀ x, t.carriage x = s.carriage x
  hold : t.pd.globalHold = s.pd.globalHold
  list : ∀ x, ∃ f : Entry → Entry, t.list x = (s.list x).map f ∧
    ∀ e, (f e).spindle = e.spindle ∧ (f e).status = e.status ∧ (f e).passedOver = e.passedOver ∧
      (f e).admittedAt = e.admittedAt

theorem windowsOnly_resettle (old new : Nat) (s : State) : WindowsOnly s (resettle old new s) := by
  have hsame {t : State} (h : t = { s with si := t.si }) : WindowsOnly s t := by
    rw [h]
    exact ⟨rfl, fun _ => rfl, rfl, fun _ => ⟨id, (List.map_id _).symm, fun _ => ⟨rfl, rfl, rfl, rfl⟩⟩⟩
  exact iteInduction (motive := WindowsOnly s)
    (fun _ => iteInduction (motive := WindowsOnly s)
      (fun _ => ⟨rfl, fun _ => rfl, rfl, fun x => ⟨_, list_openGate x _, loadedWindow_same _⟩⟩) fun _ => hsame rfl)
    fun _ => hsame rfl

/-- An entry of the lists after the change stands for one before it. -/
theorem WindowsOnly.entry {s t : State} (h : WindowsOnly s t) {x : Side} {e : Entry} (he : e ∈ t.list x) :
    ∃ g ∈ s.list x, e.spindle = g.spindle ∧ e.status = g.status := by
  obtain ⟨f, hf, hsame⟩ := h.list x
  rw [hf, List.mem_map] at he
  obtain ⟨g, hg, rfl⟩ := he
  exact ⟨g, hg, (hsame g).1, (hsame g).2.1⟩

theorem WindowsOnly.entry_after {s t : State} (h : WindowsOnly s t) {x : Side} {g : Entry} (hg : g ∈ s.list x) :
    ∃ e ∈ t.list x, e.status = g.status ∧ e.passedOver = g.passedOver ∧ e.admittedAt = g.admittedAt := by
  obtain ⟨f, hf, hsame⟩ := h.list x
  exact ⟨f g, hf ▸ List.mem_map_of_mem hg, (hsame g).2⟩

/-- A PIECE given on the state after is given on the state before. -/
theorem WindowsOnly.givenPiece {s u t : State} (h : WindowsOnly s u) {side : Side} (hg : GivenPiece side u t) :
    GivenPiece side s t := by
  obtain ⟨hstate, e, he, hw, hslot⟩ := hg
  obtain ⟨g, hg, hn, hst⟩ := h.entry he
  rw [h.carriage, hn] at hslot
  exact ⟨hstate, g, hg, hst.symm.trans hw, hslot⟩

/-- An entry that takes a PIECE takes it after the change too. -/
theorem WindowsOnly.openEntry {s u : State} (h : WindowsOnly s u) {side : Side} {limit clock : Nat} (hdc : u.dc.runClock = clock)
    (hm : u.ml.recipe.ageLimit = limit) {e : Entry} (he : e ∈ s.list side) (hw : e.status = .waiting)
    (hopen : e.passedOver = false ∨ limit ≤ clock - e.admittedAt) : OpenEntry side u := by
  obtain ⟨g, hg, hst, hover, hat⟩ := h.entry_after he
  refine ⟨g, hg, hst.trans hw, hopen.imp hover.trans fun h => (aged_waiting (hst.trans hw)).trans (decide_eq_true ?_)⟩
  rw [hm, hdc, hat]
  exact h

theorem lt_of_not_aged {s : State} {e : Entry} (hw : e.status = .waiting) (h : s.aged e = false) :
    s.dc.runClock - e.admittedAt < s.ml.recipe.ageLimit :=
  Nat.lt_of_not_le (of_decide_eq_false ((aged_waiting hw).symm.trans h))

/-! ### The states a load passes through -/

/-- The recipe loaded and the settle interval measured again. -/
def settledLoad (items : List RecipeItem) (s : State) : State :=
  resettle s.ml.recipe.settle (items.foldl Recipe.write s.ml.recipe).settle
    { s with ml.recipe := items.foldl Recipe.write s.ml.recipe }

/-- The due test made after that, in SPINNING (R118). -/
def testedLoad (items : List RecipeItem) (s : State) : State :=
  if (settledLoad items s).df.state = .spinning then dueTest (settledLoad items s) else settledLoad items s

theorem loadRecipe_eq (items : List RecipeItem) (s : State) :
    loadRecipe items s = selectBoth (passDue .full (testedLoad items s)) := rfl

/-- The step from one state to another touches what a load touches. -/
def LoadFrame (s t : State) : Prop :=
  t = { s with ml := t.ml, rm := t.rm, si := t.si, pd := t.pd, df := t.df, spindles := t.spindles, events := t.events }

theorem LoadFrame.trans {s t u : State} (h₁ : LoadFrame s t) (h₂ : LoadFrame t u) : LoadFrame s u := by
  unfold LoadFrame at *
  rw [h₂, h₁]

theorem ParkFrame.load {s t : State} (h : ParkFrame s t) : LoadFrame s t := by
  unfold ParkFrame at h
  unfold LoadFrame
  rw [h]

theorem OnlyNotices.load {s t : State} (h : OnlyNotices s t) : LoadFrame s t := by
  unfold OnlyNotices at h
  unfold LoadFrame
  rw [h]

section
variable (items : List RecipeItem) (s : State)

theorem windowsOnly_settledLoad :
    WindowsOnly { s with ml.recipe := items.foldl Recipe.write s.ml.recipe } (settledLoad items s) := windowsOnly_resettle ..

theorem settledLoad_df : (settledLoad items s).df = s.df :=
  (congrArg State.df (windowsOnly_settledLoad items s).frame).trans rfl
theorem settledLoad_dc : (settledLoad items s).dc = s.dc :=
  (congrArg State.dc (windowsOnly_settledLoad items s).frame).trans rfl
theorem settledLoad_rm : (settledLoad items s).rm = s.rm :=
  (congrArg State.rm (windowsOnly_settledLoad items s).frame).trans rfl
theorem settledLoad_events : (settledLoad items s).events = s.events :=
  (congrArg State.events (windowsOnly_settledLoad items s).frame).trans rfl
theorem settledLoad_spindles : (settledLoad items s).spindles = s.spindles :=
  (congrArg State.spindles (windowsOnly_settledLoad items s).frame).trans rfl
theorem settledLoad_ml : (settledLoad items s).ml = { s.ml with recipe := items.foldl Recipe.write s.ml.recipe } :=
  (congrArg State.ml (windowsOnly_settledLoad items s).frame).trans rfl

theorem settledLoad_frame : LoadFrame s (settledLoad items s) := by
  have h := (windowsOnly_settledLoad items s).frame
  unfold LoadFrame
  rw [h]

/-- The doff comes due at the due test of a load (R118). -/
def dueAtLoad : Prop :=
  (settledLoad items s).df.state = .spinning ∧
    dueLimit (settledLoad items s) ≤ (settledLoad items s).dc.frameLength - (settledLoad items s).df.mark

/-- The due test at a load: nothing, or the entry into DUE. -/
theorem testedLoad_cases :
    (¬ dueAtLoad items s ∧ testedLoad items s = settledLoad items s) ∨
    (dueAtLoad items s ∧ Due (if (settledLoad items s).df.inhibit then 1 else 0) (settledLoad items s) (testedLoad items s)) := by
  unfold testedLoad dueAtLoad
  rw [dueTest_eq]
  generalize settledLoad items s = v
  by_cases hs : v.df.state = .spinning
  · rw [if_pos hs]
    by_cases hle : dueLimit v ≤ v.dc.frameLength - v.df.mark
    · rw [if_pos hle]
      exact .inr ⟨⟨hs, hle⟩, due_enterDue _ v⟩
    · rw [if_neg hle]
      exact .inl ⟨fun h => hle h.2, rfl⟩
  · rw [if_neg hs]
    exact .inl ⟨fun h => hs h.1, rfl⟩

theorem testedLoad_of_not {items : List RecipeItem} {s : State} (h : ¬ dueAtLoad items s) :
    testedLoad items s = settledLoad items s :=
  (testedLoad_cases items s).elim And.right fun hd => absurd hd.1 h

theorem testedLoad_of_due {items : List RecipeItem} {s : State} (h : dueAtLoad items s) :
    Due (if (settledLoad items s).df.inhibit then 1 else 0) (settledLoad items s) (testedLoad items s) :=
  (testedLoad_cases items s).elim (fun hn => absurd h hn.1) And.right

/-- What holds of the state before the due test, and is kept by the raise and the parking, holds after it. -/
theorem testedLoad_keeps {P : State → Prop} (h : P (settledLoad items s))
    (hdue : ∀ d t, Due d (settledLoad items s) t → P t) : P (testedLoad items s) := by
  obtain ⟨-, he⟩ | ⟨-, hd⟩ := testedLoad_cases items s
  · rwa [he]
  · exact hdue _ _ hd

theorem testedLoad_frame : LoadFrame (settledLoad items s) (testedLoad items s) :=
  testedLoad_keeps items s (P := LoadFrame _) rfl fun d _ h =>
    (OnlyNotices.raiseEvent .doffDue d (settledLoad items s)).load.trans h.frame.load

theorem testedLoad_rm : (testedLoad items s).rm = (settledLoad items s).rm :=
  testedLoad_keeps items s (P := fun t => t.rm = (settledLoad items s).rm) rfl fun _ _ h =>
    (congrArg State.rm h.frame).trans (raiseEvent_rm ..)

theorem testedLoad_si : (testedLoad items s).si = (settledLoad items s).si :=
  testedLoad_keeps items s (P := fun t => t.si = (settledLoad items s).si) rfl fun _ _ h =>
    (congrArg State.si h.frame).trans (raiseEvent_si ..)

/-! ### What a load comes to -/

theorem dispatchOnly_load : DispatchOnly (passDue .full (testedLoad items s)) (loadRecipe items s) := .selectBoth _

theorem loadRecipe_df : (loadRecipe items s).df = (testedLoad items s).df :=
  (dispatchOnly_df (dispatchOnly_load items s)).trans rfl

theorem loadRecipe_ml_tested : (loadRecipe items s).ml = (testedLoad items s).ml :=
  (dispatchOnly_ml (dispatchOnly_load items s)).trans rfl

theorem loadRecipe_events : (loadRecipe items s).events = (testedLoad items s).events :=
  (dispatchOnly_events (dispatchOnly_load items s)).trans rfl

theorem loadRecipe_si : (loadRecipe items s).si = (settledLoad items s).si :=
  (dispatchOnly_si (dispatchOnly_load items s)).trans (testedLoad_si items s)

theorem loadRecipe_rm : (loadRecipe items s).rm = { s.rm with due := s.rm.due ++ [.full] } :=
  (dispatchOnly_rm (dispatchOnly_load items s)).trans
    (congrArg (fun r : Roving => { r with due := r.due ++ [Pass.full] }) ((testedLoad_rm items s).trans (settledLoad_rm items s)))

/-- The blocks a load touches. -/
theorem loadRecipe_frame : LoadFrame s (loadRecipe items s) :=
  have hfull : LoadFrame (testedLoad items s) (passDue .full (testedLoad items s)) := rfl
  (((settledLoad_frame items s).trans (testedLoad_frame items s)).trans hfull).trans
    (ParkFrame.of_dispatchOnly (dispatchOnly_load items s)).load

/-- A load leaves its recipe, and a NOTICE at most in the own queue. -/
theorem loadRecipe_ml : ∃ (notice : List OwnFrame) (seq : Nat), notice.length ≤ 1 ∧ (loadRecipe items s).ml =
    { s.ml with recipe := items.foldl Recipe.write s.ml.recipe, own := s.ml.own ++ notice, ownSeq := seq } := by
  have hml := settledLoad_ml items s
  rw [loadRecipe_ml_tested]
  refine testedLoad_keeps items s (P := fun t => ∃ (notice : List OwnFrame) (seq : Nat), notice.length ≤ 1 ∧ t.ml =
    { s.ml with recipe := items.foldl Recipe.write s.ml.recipe, own := s.ml.own ++ notice, ownSeq := seq })
    ⟨[], s.ml.ownSeq, Nat.zero_le 1, by rw [hml, List.append_nil]⟩ fun d t h => ?_
  obtain ⟨notice, seq, hlen, hraise⟩ := raiseEvent_ml .doffDue d (settledLoad items s)
  exact ⟨notice, seq, hlen, (congrArg State.ml h.frame).trans (hraise.trans (by rw [hml]))⟩

theorem loadRecipe_own : ∃ notice : List OwnFrame, notice.length ≤ 1 ∧ (loadRecipe items s).ml.own = s.ml.own ++ notice := by
  obtain ⟨notice, _, hlen, h⟩ := loadRecipe_ml items s
  exact ⟨notice, hlen, congrArg MillLink.own h⟩

theorem loadRecipe_recipe : (loadRecipe items s).ml.recipe = items.foldl Recipe.write s.ml.recipe := by
  obtain ⟨_, _, -, h⟩ := loadRecipe_ml items s
  exact congrArg MillLink.recipe h

theorem loadRecipe_ml_frame : (loadRecipe items s).ml = { s.ml with
    recipe := (loadRecipe items s).ml.recipe, own := (loadRecipe items s).ml.own, ownSeq := (loadRecipe items s).ml.ownSeq } := by
  obtain ⟨_, _, -, h⟩ := loadRecipe_ml items s
  rw [h]

/-- The due test at a load, in the recipe the load leaves and the state before it. -/
theorem dueAtLoad_iff : dueAtLoad items s ↔ s.df.state = .spinning ∧
    (loadRecipe items s).ml.recipe.doffTarget + (if s.df.inhibit then (loadRecipe items s).ml.recipe.doffOverrun else 0) ≤
      s.dc.frameLength - s.df.mark := by
  unfold dueAtLoad dueLimit
  rw [settledLoad_df, settledLoad_dc, settledLoad_ml, loadRecipe_recipe]

theorem loadRecipe_spindles : SpindlesKept s (loadRecipe items s) :=
  ((SpindlesKept.of_eq (settledLoad_spindles items s)).trans
    (testedLoad_keeps items s (P := SpindlesKept (settledLoad items s)) (.of_eq rfl) fun _ _ h => h.spindles)).trans
    (dispatchOnly_load items s).2.2

/-- From the settle interval's change to the selection every entry keeps its place, and its window while it is VERIFYING. -/
theorem entriesKept_load : EntriesKept (settledLoad items s) (passDue .full (testedLoad items s)) :=
  (testedLoad_keeps items s (P := EntriesKept (settledLoad items s)) (.refl _) fun _ _ h => h.entries).trans
    (.of_list fun _ => rfl)

end

end Sys2Proof.Machine
end

section
/-! SETTLED. LOAD_RECIPE (R31, R77, R118, R154, R201; log 16). -/

namespace Sys2Proof.Machine

section
variable {items : List RecipeItem} {s : State} (hsides : ∀ x, ∀ e ∈ s.list x, sideOf e.spindle = x)
include hsides

/-- Every entry of a list is of the list's side when a load selects. -/
theorem sides_testedLoad (x : Side) : ∀ e ∈ (passDue .full (testedLoad items s)).list x, sideOf e.spindle = x :=
  (entriesKept_load items s).sides fun _ he =>
    ((windowsOnly_settledLoad items s).entry he).elim fun g h => (congrArg sideOf h.2.1).trans (hsides x g h.1)

/-- No carriage that may be given a PIECE is IDLE after a load beside an entry that takes one (R77, R78). -/
theorem loadRecipe_leaves_none {side : Side} (hdf : (loadRecipe items s).df.state = .spinning)
    (hgate : (loadRecipe items s).si.gate = .opened) (hhold : (loadRecipe items s).pd.globalHold = false)
    (hidle : ((loadRecipe items s).carriage side).state = .idle) : NoneOpen side (loadRecipe items s) := by
  have hu := dispatchOnly_load items s
  have hglobal : (loadRecipe items s).pd.globalHold = (passDue .full (testedLoad items s)).pd.globalHold :=
    (globalHold_selectFor .B _).trans (globalHold_selectFor .A _)
  rw [dispatchOnly_df hu] at hdf
  rw [dispatchOnly_si hu] at hgate
  exact noneOpen_selectBoth (sides_testedLoad hsides) hdf hgate (hglobal.symm.trans hhold) hidle

/-- A carriage that may be given a PIECE beside an entry that takes one is given it (R77, R78). -/
theorem loadRecipe_gives {side : Side} (hdf : s.df.state = .spinning) (hdue : ¬ dueAtLoad items s)
    (hgate : (loadRecipe items s).si.gate = .opened) (hhold : s.pd.globalHold = false)
    (hidle : (s.carriage side).state = .idle) {e : Entry} (he : e ∈ s.list side) (hw : e.status = .waiting)
    (htakes : e.passedOver = false ∨ (loadRecipe items s).ml.recipe.ageLimit ≤ s.dc.runClock - e.admittedAt) :
    GivenPiece side s (loadRecipe items s) := by
  have hsame := windowsOnly_settledLoad items s
  have htested : testedLoad items s = settledLoad items s := testedLoad_of_not hdue
  have hsides' := sides_testedLoad (items := items) hsides
  rw [loadRecipe_si] at hgate
  rw [loadRecipe_recipe] at htakes
  rw [htested] at hsides'
  rw [loadRecipe_eq, htested]
  exact hsame.givenPiece (givenPiece_selectBoth hsides' ((congrArg DoffControl.state (settledLoad_df items s)).trans hdf) hgate
    (hsame.hold.trans hhold) ((congrArg Carriage.state (hsame.carriage side)).trans hidle)
    (hsame.openEntry (congrArg Delivery.runClock (settledLoad_dc items s))
      (congrArg (fun m : MillLink => m.recipe.ageLimit) (settledLoad_ml items s)) he hw htakes))

end

section
variable {items : List RecipeItem} {s : State}

/-- What a load comes to where neither the doff nor the gate is concerned. -/
theorem loadRecipe_plain (hdf : ¬ s.df.state = .spinning) (hgate : ¬ s.si.gate = .settling) :
    loadRecipe items s = { s with ml.recipe := (loadRecipe items s).ml.recipe, rm := (loadRecipe items s).rm } := by
  have hsettled : settledLoad items s = { s with ml.recipe := items.foldl Recipe.write s.ml.recipe } :=
    resettle_of_not (.inl hgate)
  have htested : testedLoad items s = settledLoad items s :=
    if_neg fun h => hdf ((congrArg DoffControl.state (settledLoad_df items s)).symm.trans h)
  have hnot (side : Side) : dispatchable side (passDue .full (settledLoad items s)) = false := by
    rw [← Bool.not_eq_true, dispatchable_iff, hsettled]
    exact fun h => hdf h.1
  rw [loadRecipe_eq, htested, selectBoth, selectFor_not_dispatchable .A _ (hnot .A),
    selectFor_not_dispatchable .B _ (hnot .B), hsettled]
  rfl

theorem loadRecipe_si_same (h : ¬ s.si.gate = .settling ∨ (loadRecipe items s).ml.recipe.settle = s.ml.recipe.settle) :
    (loadRecipe items s).si = s.si := by
  rw [loadRecipe_recipe] at h
  have hsettled : settledLoad items s = _ := resettle_of_not (h.imp id Eq.symm)
  rw [loadRecipe_si, hsettled]

section
variable (h : s.si.gate = .settling ∧ ¬ (loadRecipe items s).ml.recipe.settle = s.ml.recipe.settle)
include h

theorem loadRecipe_opens
    (hrun : (loadRecipe items s).ml.recipe.settle * 1000 ≤ s.ml.recipe.settle * 1000 - s.si.settle.left) :
    (loadRecipe items s).si = { s.si with gate := .opened, settle := { left := 0, running := false } } ∧
    ∀ side, ∀ e ∈ (loadRecipe items s).list side, e.status = .verifying →
      e.window = some { left := (loadRecipe items s).ml.recipe.verifyWindow * 1000, running := true } := by
  rw [loadRecipe_recipe] at *
  have hsettled : settledLoad items s = openGate _ := resettle_opens ⟨h.1, fun hn => h.2 hn.symm⟩ hrun
  refine ⟨(loadRecipe_si items s).trans (by rw [hsettled]; rfl), fun side =>
    ((entriesKept_load items s).trans (.selectBoth _)).windows ?_⟩
  rw [hsettled]
  exact openGate_windows

theorem loadRecipe_runs
    (hrun : s.ml.recipe.settle * 1000 - s.si.settle.left < (loadRecipe items s).ml.recipe.settle * 1000) :
    (loadRecipe items s).si = { s.si with
      settle := { left := (loadRecipe items s).ml.recipe.settle * 1000 - (s.ml.recipe.settle * 1000 - s.si.settle.left)
                  running := true } } := by
  rw [loadRecipe_recipe] at *
  have hsettled : settledLoad items s = _ := resettle_runs ⟨h.1, fun hn => h.2 hn.symm⟩ (Nat.not_le_of_lt hrun)
  rw [loadRecipe_si, hsettled]
  rfl

end

/-- The doff does not come due at the load: the Doff Controller, the Event Unit and the own queue stand. -/
theorem loadRecipe_not_due (h : ¬ dueAtLoad items s) :
    (loadRecipe items s).df = s.df ∧ (loadRecipe items s).events = s.events ∧ (loadRecipe items s).ml.own = s.ml.own := by
  rw [loadRecipe_df, loadRecipe_events, loadRecipe_ml_tested, testedLoad_of_not h, settledLoad_df, settledLoad_events,
    settledLoad_ml]
  exact ⟨rfl, rfl, rfl⟩

/-- The doff comes due at the load: DOFF_DUE is raised, and where both carriages are out of the way the frame is stopping (R118,
R119). -/
theorem loadRecipe_due (h : dueAtLoad items s) (hlen : s.events.length = 16) :
    ((loadRecipe items s).event 6).flag = true ∧
    ((loadRecipe items s).event 6).detail = (if s.df.inhibit then 1 else 0) ∧
    (∀ c, ¬ c = 6 → (loadRecipe items s).event c = s.event c) ∧
    (loadRecipe items s).df.state =
      (if (s.carriage .A).away = true ∧ (s.carriage .B).away = true then .stopping else .due) := by
  have hdue := testedLoad_of_due h
  have hsame := windowsOnly_settledLoad items s
  have hevents := settledLoad_events items s
  rw [settledLoad_df] at hdue
  have hraised (c : Nat) : (loadRecipe items s).event c =
      (raiseEvent .doffDue (if s.df.inhibit then 1 else 0) (settledLoad items s)).event c :=
    event_congr ((loadRecipe_events items s).trans (congrArg State.events hdue.frame)) c
  obtain ⟨hflag, hdetail, -⟩ := event_raiseEvent_self .doffDue (if s.df.inhibit then 1 else 0) (s := settledLoad items s)
    (by rw [hevents, hlen]; decide)
  refine ⟨(congrArg EventClass.flag (hraised 6)).trans hflag, (congrArg EventClass.detail (hraised 6)).trans hdetail,
    fun c hc => (hraised c).trans ((event_raiseEvent_other hc _ _).trans (event_congr hevents c)), ?_⟩
  rw [loadRecipe_df, hdue.state, hsame.carriage, hsame.carriage]
  rfl

end

/-- Settles O50: the judge's verdict, and `loadRecipe` of the state answered, block by block. -/
theorem loadRecipeTakesEffectOnTheBlocks : Obligations.LoadRecipeTakesEffectOnTheBlocks := by
  unfold Obligations.LoadRecipeTakesEffectOnTheBlocks
  intro h items s ht hs low high clamped replied spanNow
  refine ⟨fun hbad => argRefuse_next ht hs (judgeLoadRecipe_refused hbad), fun h₁ h₂ hitems => ?_⟩
  have hexec : exec (.loadRecipe h items) s = .next (loadRecipe items replied) :=
    (argRequest_next ht hs (code := 0x02) (judgeLoadRecipe_taken h₁ h₂ hitems _)).trans
      (congrArg (fun a => Host.Outcome.next (loadRecipe items (s.answered h 0x02 a .empty))) (clampAnswer_items hitems))
  have hml : replied.ml.recipe = s.ml.recipe := answered_ml_recipe ..
  have hdf : replied.df = s.df := answered_df ..
  have hsi : replied.si = s.si := answered_si ..
  have hdc : replied.dc = s.dc := answered_dc ..
  have hpd : replied.pd = s.pd := answered_pd ..
  have hrm : replied.rm = s.rm := answered_rm ..
  have hevents : replied.events = s.events := answered_events ..
  have hcarriage (x : Side) : replied.carriage x = s.carriage x := congrArg (fun d : Dispatcher => d.carriages.get x) hpd
  have hlist (x : Side) : replied.list x = s.list x := congrArg (fun d : Dispatcher => d.lists.get x) hpd
  have hspindles : SpindlesKept s replied := .of_eq (answered_spindles ..)
  have hdue := dueAtLoad_iff items replied
  rw [hdf, hdc] at hdue
  refine ⟨_, hexec, fun f hf₁ hf₂ => ?_, (loadRecipe_rm items replied).trans (by rw [hrm]), loadRecipe_own items replied,
    loadRecipe_ml_frame items replied, hspindles.trans (loadRecipe_spindles items replied), loadRecipe_frame items replied,
    fun hspin hset => loadRecipe_plain (by rwa [hdf]) (by rwa [hsi]),
    fun hc => (loadRecipe_si_same (by rwa [hsi, hml])).trans hsi, fun hg hn => ?_, fun hnot => ?_, fun hc hlen => ?_,
    fun hsides => ?_⟩
  · rw [loadRecipe_recipe, fields_writes hitems hf₁, hml]
    cases (items.filter (fun i => decide (i.field = f))).getLast? <;> rfl
  · rw [← hsi] at hg ⊢
    rw [← hml] at hn ⊢
    exact ⟨loadRecipe_opens ⟨hg, hn⟩, loadRecipe_runs ⟨hg, hn⟩⟩
  · rw [← hdf, ← hevents]
    exact loadRecipe_not_due fun hc => hnot (hdue.mp hc)
  · obtain ⟨hflag, hdetail, hother, hstate⟩ := loadRecipe_due (hdue.mpr hc) ((congrArg List.length hevents).trans hlen)
    rw [hdf] at hdetail
    rw [hcarriage, hcarriage] at hstate
    exact ⟨hflag, hdetail, fun c hn => (hother c hn).trans (event_congr hevents c), hstate⟩
  · have hsides' (x : Side) : ∀ e ∈ replied.list x, sideOf e.spindle = x := (hlist x).symm ▸ hsides x
    refine ⟨fun _ hspin hgate hhold hidle e he hw => ?_, fun side hspin hnot hgate hhold hidle ⟨e, he, hw, htakes⟩ => ?_⟩
    · exact (loadRecipe_leaves_none hsides' hspin hgate hhold hidle e he hw).imp id (lt_of_not_aged hw)
    · exact (loadRecipe_gives hsides' (hdf ▸ hspin) (fun hc => hnot (hdue.mp hc)) hgate (hpd ▸ hhold) (hcarriage side ▸ hidle)
        (hlist side ▸ he) hw (hdc ▸ htakes)).congr (hlist side).symm (hcarriage side).symm rfl

end Sys2Proof.Machine
end
